-- ==== Sys2Proof/Word.lean ====
section
/-! DEFINITION. Sys2Proof/Word.lean: the word types of TS25-CORE (widths as 00_scope.md rule R8 and 10_state.md rules R21 to R44 give them). -/

namespace Sys2Proof

/-- One byte: a host register, `h_wdata`, `h_rdata`, `bc_tx_data` (10_state.md rule R21). -/
abbrev Byte := BitVec 8

/-- A host register address, `h_addr[3:0]` (10_state.md rule R44). -/
abbrev RegAddr := BitVec 4

/-- A bus target address (`BUS_ADDR_W = 7`, 00_scope.md rule R8). -/
abbrev BusAddr := BitVec 7

/-- A host transaction word (30_encoding.md rule R80). -/
abbrev Htw := BitVec 13

/-- The RawFrame shift register's word (`FRAME_BITS = 40`, 10_state.md rule R28). -/
abbrev Frame := BitVec 40

end Sys2Proof
end

