-- ==== Sys2Proof/Syntax.lean ====
section
/-! DEFINITION. Sys2Proof/Syntax.lean: the host registers' names and the instructions.  An instruction is one host transaction
(00_scope.md rule R2): one constructor for each of the 41 rows of 30_encoding.md rule R83 (spec/opcode_table.json). -/

namespace Sys2Proof

/-- The 16 host registers (10_state.md rule R44), by name. -/
inductive Reg where
  | cmd
  | status
  | view
  | b0
  | b1
  | b2
  | b3
  | b4
  | ftenLo
  | ftenHi
  | busAddr
  | busData
  | nackCnt
  | phase
  | bitidx
  | rsvdF
deriving DecidableEq, Repr

/-- The instructions: one host transaction each.  A read keeps the data bits its word carries (ignored, 30_encoding.md rule
R80), so that no bit of a word is lost (log entry 9). -/
inductive Instr where
  /-- `RD CMD` (R101) -/
  | rdCmd (xx : Byte)
  /-- `RD STATUS` (R101) -/
  | rdStatus (xx : Byte)
  /-- `RD VIEW` (R101) -/
  | rdView (xx : Byte)
  /-- `RD B0` (R101) -/
  | rdB0 (xx : Byte)
  /-- `RD B1` (R101) -/
  | rdB1 (xx : Byte)
  /-- `RD B2` (R101) -/
  | rdB2 (xx : Byte)
  /-- `RD B3` (R101) -/
  | rdB3 (xx : Byte)
  /-- `RD B4` (R101) -/
  | rdB4 (xx : Byte)
  /-- `RD FTEN_LO` (R101) -/
  | rdFtenLo (xx : Byte)
  /-- `RD FTEN_HI` (R101) -/
  | rdFtenHi (xx : Byte)
  /-- `RD BUS_ADDR` (R101) -/
  | rdBusAddr (xx : Byte)
  /-- `RD BUS_DATA` (R101) -/
  | rdBusData (xx : Byte)
  /-- `RD NACK_CNT` (R101) -/
  | rdNackCnt (xx : Byte)
  /-- `RD PHASE` (R101) -/
  | rdPhase (xx : Byte)
  /-- `RD BITIDX` (R101) -/
  | rdBitidx (xx : Byte)
  /-- `RD 0xF` (R101) -/
  | rdRsvdF (xx : Byte)
  /-- `NOP`, `WR CMD, 0x00` (R104) -/
  | nop
  /-- `ACQ`, `WR CMD, 0x01` (R150) -/
  | acq
  /-- `POLL`, `WR CMD, 0x02` (R190) -/
  | poll
  /-- `SEND`, `WR CMD, 0x03` (R120) -/
  | send
  /-- `WR CMD, cmd`, reserved, `cmd` in 0x04..0x07 (R106) -/
  | wrCmdRsvd04 (cmd : Byte)
  /-- `WR CMD, cmd`, reserved, `cmd` in 0x08..0x0F (R106) -/
  | wrCmdRsvd08 (cmd : Byte)
  /-- `WR CMD, cmd`, reserved, `cmd` in 0x10..0x1F (R106) -/
  | wrCmdRsvd10 (cmd : Byte)
  /-- `WR CMD, cmd`, reserved, `cmd` in 0x20..0x3F (R106) -/
  | wrCmdRsvd20 (cmd : Byte)
  /-- `WR CMD, cmd`, reserved, `cmd` in 0x40..0x7F (R106) -/
  | wrCmdRsvd40 (cmd : Byte)
  /-- `WR CMD, cmd`, reserved, `cmd` in 0x80..0xFF (R106) -/
  | wrCmdRsvd80 (cmd : Byte)
  /-- `WR STATUS, m` (R107) -/
  | wrStatus (m : Byte)
  /-- `WR VIEW, v` (R111) -/
  | wrView (v : Byte)
  /-- `WR B0, v` (R111) -/
  | wrB0 (v : Byte)
  /-- `WR B1, v` (R111) -/
  | wrB1 (v : Byte)
  /-- `WR B2, v` (R111) -/
  | wrB2 (v : Byte)
  /-- `WR B3, v` (R111) -/
  | wrB3 (v : Byte)
  /-- `WR B4, v` (R111) -/
  | wrB4 (v : Byte)
  /-- `WR FTEN_LO, v` (R111) -/
  | wrFtenLo (v : Byte)
  /-- `WR FTEN_HI, v` (R111) -/
  | wrFtenHi (v : Byte)
  /-- `WR BUS_ADDR, v` (R108) -/
  | wrBusAddr (v : Byte)
  /-- `WR BUS_DATA, v` (R109) -/
  | wrBusData (v : Byte)
  /-- `WR NACK_CNT, v` (R110) -/
  | wrNackCnt (v : Byte)
  /-- `WR PHASE, v` (R111) -/
  | wrPhase (v : Byte)
  /-- `WR BITIDX, v` (R111) -/
  | wrBitidx (v : Byte)
  /-- `WR 0xF, v` (R111) -/
  | wrRsvdF (v : Byte)
deriving DecidableEq, Repr

end Sys2Proof
end

