-- ==== Sys2Proof/WellFormed.lean ====
section
/-! DEFINITION. Sys2Proof/WellFormed.lean: which terms of `Instr` stand for a host transaction word. -/

namespace Sys2Proof

/-- A reserved-opcode row's command byte lies in the row's range (30_encoding.md rule R83).  Every other operand may take every
value of its type: each of the 8192 words is well formed (30_encoding.md rule R81). -/
def Instr.wellFormed : Instr → Bool
  | .wrCmdRsvd04 cmd => decide (4 ≤ cmd.toNat) && decide (cmd.toNat ≤ 7)
  | .wrCmdRsvd08 cmd => decide (8 ≤ cmd.toNat) && decide (cmd.toNat ≤ 15)
  | .wrCmdRsvd10 cmd => decide (16 ≤ cmd.toNat) && decide (cmd.toNat ≤ 31)
  | .wrCmdRsvd20 cmd => decide (32 ≤ cmd.toNat) && decide (cmd.toNat ≤ 63)
  | .wrCmdRsvd40 cmd => decide (64 ≤ cmd.toNat) && decide (cmd.toNat ≤ 127)
  | .wrCmdRsvd80 cmd => decide (128 ≤ cmd.toNat)
  | .rdCmd _ => true
  | .rdStatus _ => true
  | .rdView _ => true
  | .rdB0 _ => true
  | .rdB1 _ => true
  | .rdB2 _ => true
  | .rdB3 _ => true
  | .rdB4 _ => true
  | .rdFtenLo _ => true
  | .rdFtenHi _ => true
  | .rdBusAddr _ => true
  | .rdBusData _ => true
  | .rdNackCnt _ => true
  | .rdPhase _ => true
  | .rdBitidx _ => true
  | .rdRsvdF _ => true
  | .nop => true
  | .acq => true
  | .poll => true
  | .send => true
  | .wrStatus _ => true
  | .wrView _ => true
  | .wrB0 _ => true
  | .wrB1 _ => true
  | .wrB2 _ => true
  | .wrB3 _ => true
  | .wrB4 _ => true
  | .wrFtenLo _ => true
  | .wrFtenHi _ => true
  | .wrBusAddr _ => true
  | .wrBusData _ => true
  | .wrNackCnt _ => true
  | .wrPhase _ => true
  | .wrBitidx _ => true
  | .wrRsvdF _ => true

end Sys2Proof
end

