-- ==== Sys2Proof/Decode.lean ====
section
/-! DEFINITION. Sys2Proof/Decode.lean: the host transaction word's fields, the decoder and the encoder, and the opcode map of
30_encoding.md rule R83 as a table of masks. -/

namespace Sys2Proof

/-! ### Fields (30_encoding.md rules R80 and R81) -/

/-- `we = HTW[12]`. -/
def Htw.we (h : Htw) : Bool := h.getLsbD 12

/-- `addr = HTW[11:8]`. -/
def Htw.addr (h : Htw) : RegAddr := h.extractLsb' 8 4

/-- `data = HTW[7:0]`. -/
def Htw.data (h : Htw) : Byte := h.extractLsb' 0 8

/-- The word of three fields, `{we, addr, data}`. -/
def htwOf (we : Bool) (addr : RegAddr) (data : Byte) : Htw := BitVec.ofBool we ++ addr ++ data

/-! ### Register addresses (10_state.md rule R44) -/

/-- The register at an address. -/
def Reg.ofAddr (a : RegAddr) : Reg :=
  match a.toNat with
  | 0 => .cmd
  | 1 => .status
  | 2 => .view
  | 3 => .b0
  | 4 => .b1
  | 5 => .b2
  | 6 => .b3
  | 7 => .b4
  | 8 => .ftenLo
  | 9 => .ftenHi
  | 10 => .busAddr
  | 11 => .busData
  | 12 => .nackCnt
  | 13 => .phase
  | 14 => .bitidx
  | _ => .rsvdF

/-- The address of a register. -/
def Reg.addr : Reg → RegAddr
  | .cmd => 0x0#4
  | .status => 0x1#4
  | .view => 0x2#4
  | .b0 => 0x3#4
  | .b1 => 0x4#4
  | .b2 => 0x5#4
  | .b3 => 0x6#4
  | .b4 => 0x7#4
  | .ftenLo => 0x8#4
  | .ftenHi => 0x9#4
  | .busAddr => 0xA#4
  | .busData => 0xB#4
  | .nackCnt => 0xC#4
  | .phase => 0xD#4
  | .bitidx => 0xE#4
  | .rsvdF => 0xF#4

/-! ### Decoding -/

/-- Words with `we == 0`: the 16 `RD` rows (30_encoding.md rule R83). -/
def decodeRead (r : Reg) (data : Byte) : Instr :=
  match r with
  | .cmd => .rdCmd data
  | .status => .rdStatus data
  | .view => .rdView data
  | .b0 => .rdB0 data
  | .b1 => .rdB1 data
  | .b2 => .rdB2 data
  | .b3 => .rdB3 data
  | .b4 => .rdB4 data
  | .ftenLo => .rdFtenLo data
  | .ftenHi => .rdFtenHi data
  | .busAddr => .rdBusAddr data
  | .busData => .rdBusData data
  | .nackCnt => .rdNackCnt data
  | .phase => .rdPhase data
  | .bitidx => .rdBitidx data
  | .rsvdF => .rdRsvdF data

/-- Words with `we == 1` and `addr == 0x0`: the whole data byte is the opcode (30_encoding.md rules R82 and R85). -/
def decodeCommand (cmd : Byte) : Instr :=
  if cmd = 0x00#8 then .nop
  else if cmd = 0x01#8 then .acq
  else if cmd = 0x02#8 then .poll
  else if cmd = 0x03#8 then .send
  else if cmd.toNat < 0x08 then .wrCmdRsvd04 cmd
  else if cmd.toNat < 0x10 then .wrCmdRsvd08 cmd
  else if cmd.toNat < 0x20 then .wrCmdRsvd10 cmd
  else if cmd.toNat < 0x40 then .wrCmdRsvd20 cmd
  else if cmd.toNat < 0x80 then .wrCmdRsvd40 cmd
  else .wrCmdRsvd80 cmd

/-- Words with `we == 1` (30_encoding.md rule R83). -/
def decodeWrite (r : Reg) (data : Byte) : Instr :=
  match r with
  | .cmd => decodeCommand data
  | .status => .wrStatus data
  | .view => .wrView data
  | .b0 => .wrB0 data
  | .b1 => .wrB1 data
  | .b2 => .wrB2 data
  | .b3 => .wrB3 data
  | .b4 => .wrB4 data
  | .ftenLo => .wrFtenLo data
  | .ftenHi => .wrFtenHi data
  | .busAddr => .wrBusAddr data
  | .busData => .wrBusData data
  | .nackCnt => .wrNackCnt data
  | .phase => .wrPhase data
  | .bitidx => .wrBitidx data
  | .rsvdF => .wrRsvdF data

/-- The decoder: total, since every 13-bit word selects exactly one row (30_encoding.md rules R81 and R83). -/
def decode (h : Htw) : Instr :=
  if h.we then decodeWrite (Reg.ofAddr h.addr) h.data else decodeRead (Reg.ofAddr h.addr) h.data

/-- Why a run of bytes, or a number, is no host transaction word. -/
inductive DecodeError where
  /-- Fewer bytes than the two a 13-bit word takes. -/
  | tooFewBytes
  /-- One of the bits above bit 12 is 1: the word is wider than 13 bits (30_encoding.md rule R87). -/
  | bitsAboveHtw
deriving DecidableEq, Repr

/-- The decoder on a word given as a number. -/
def decodeNat (w : Nat) : Except DecodeError Instr :=
  if w < 2 ^ 13 then .ok (decode (BitVec.ofNat 13 w)) else .error .bitsAboveHtw

/-- The decoder on bytes: a word is two bytes, bits [7:0] first (log entry 8); the bytes after it are handed back. -/
def decodeBytes : List Byte → Except DecodeError (Instr × List Byte)
  | lo :: hi :: rest =>
    match decodeNat (lo.toNat + 256 * hi.toNat) with
    | .ok i => .ok (i, rest)
    | .error e => .error e
  | _ => .error .tooFewBytes

/-- The instruction of an opcode-table word of `nbits` bits (the host's question). -/
def decodeTableWord (nbits w : Nat) : Option Instr :=
  let v := w % 2 ^ nbits
  match decodeBytes [BitVec.ofNat 8 v, BitVec.ofNat 8 (v / 256)] with
  | .ok (i, _) => if v < 2 ^ 16 then some i else none
  | .error _ => none

/-! ### Encoding -/

/-- The transaction's direction, `we`. -/
def Instr.we : Instr → Bool
  | .rdCmd _ => false
  | .rdStatus _ => false
  | .rdView _ => false
  | .rdB0 _ => false
  | .rdB1 _ => false
  | .rdB2 _ => false
  | .rdB3 _ => false
  | .rdB4 _ => false
  | .rdFtenLo _ => false
  | .rdFtenHi _ => false
  | .rdBusAddr _ => false
  | .rdBusData _ => false
  | .rdNackCnt _ => false
  | .rdPhase _ => false
  | .rdBitidx _ => false
  | .rdRsvdF _ => false
  | .nop => true
  | .acq => true
  | .poll => true
  | .send => true
  | .wrCmdRsvd04 _ => true
  | .wrCmdRsvd08 _ => true
  | .wrCmdRsvd10 _ => true
  | .wrCmdRsvd20 _ => true
  | .wrCmdRsvd40 _ => true
  | .wrCmdRsvd80 _ => true
  | .wrStatus _ => true
  | .wrView _ => true
  | .wrB0 _ => true
  | .wrB1 _ => true
  | .wrB2 _ => true
  | .wrB3 _ => true
  | .wrB4 _ => true
  | .wrFtenLo _ => true
  | .wrFtenHi _ => true
  | .wrBusAddr _ => true
  | .wrBusData _ => true
  | .wrNackCnt _ => true
  | .wrPhase _ => true
  | .wrBitidx _ => true
  | .wrRsvdF _ => true

/-- The register a transaction addresses. -/
def Instr.reg : Instr → Reg
  | .rdCmd _ => .cmd
  | .rdStatus _ => .status
  | .rdView _ => .view
  | .rdB0 _ => .b0
  | .rdB1 _ => .b1
  | .rdB2 _ => .b2
  | .rdB3 _ => .b3
  | .rdB4 _ => .b4
  | .rdFtenLo _ => .ftenLo
  | .rdFtenHi _ => .ftenHi
  | .rdBusAddr _ => .busAddr
  | .rdBusData _ => .busData
  | .rdNackCnt _ => .nackCnt
  | .rdPhase _ => .phase
  | .rdBitidx _ => .bitidx
  | .rdRsvdF _ => .rsvdF
  | .nop => .cmd
  | .acq => .cmd
  | .poll => .cmd
  | .send => .cmd
  | .wrCmdRsvd04 _ => .cmd
  | .wrCmdRsvd08 _ => .cmd
  | .wrCmdRsvd10 _ => .cmd
  | .wrCmdRsvd20 _ => .cmd
  | .wrCmdRsvd40 _ => .cmd
  | .wrCmdRsvd80 _ => .cmd
  | .wrStatus _ => .status
  | .wrView _ => .view
  | .wrB0 _ => .b0
  | .wrB1 _ => .b1
  | .wrB2 _ => .b2
  | .wrB3 _ => .b3
  | .wrB4 _ => .b4
  | .wrFtenLo _ => .ftenLo
  | .wrFtenHi _ => .ftenHi
  | .wrBusAddr _ => .busAddr
  | .wrBusData _ => .busData
  | .wrNackCnt _ => .nackCnt
  | .wrPhase _ => .phase
  | .wrBitidx _ => .bitidx
  | .wrRsvdF _ => .rsvdF

/-- The word's data byte. -/
def Instr.data : Instr → Byte
  | .rdCmd xx => xx
  | .rdStatus xx => xx
  | .rdView xx => xx
  | .rdB0 xx => xx
  | .rdB1 xx => xx
  | .rdB2 xx => xx
  | .rdB3 xx => xx
  | .rdB4 xx => xx
  | .rdFtenLo xx => xx
  | .rdFtenHi xx => xx
  | .rdBusAddr xx => xx
  | .rdBusData xx => xx
  | .rdNackCnt xx => xx
  | .rdPhase xx => xx
  | .rdBitidx xx => xx
  | .rdRsvdF xx => xx
  | .nop => 0x00#8
  | .acq => 0x01#8
  | .poll => 0x02#8
  | .send => 0x03#8
  | .wrCmdRsvd04 cmd => cmd
  | .wrCmdRsvd08 cmd => cmd
  | .wrCmdRsvd10 cmd => cmd
  | .wrCmdRsvd20 cmd => cmd
  | .wrCmdRsvd40 cmd => cmd
  | .wrCmdRsvd80 cmd => cmd
  | .wrStatus v => v
  | .wrView v => v
  | .wrB0 v => v
  | .wrB1 v => v
  | .wrB2 v => v
  | .wrB3 v => v
  | .wrB4 v => v
  | .wrFtenLo v => v
  | .wrFtenHi v => v
  | .wrBusAddr v => v
  | .wrBusData v => v
  | .wrNackCnt v => v
  | .wrPhase v => v
  | .wrBitidx v => v
  | .wrRsvdF v => v

/-- The encoder: `{we, addr, data}` (30_encoding.md rule R88). -/
def encode (i : Instr) : Htw := htwOf i.we i.reg.addr i.data

/-! ### Pseudo-instructions (30_encoding.md rules R89 to R91) -/

/-- `SEND <addr7>, <byte>` (R89): three words. -/
def pseudoSend (a : BusAddr) (b : Byte) : List Instr := [.wrBusAddr (a.setWidth 8), .wrBusData b, .send]

/-- One turn of `WAITIDLE` (R90): a read of STATUS. -/
def pseudoWaitIdleTurn : Instr := .rdStatus 0x00#8

/-- `WAITIDLE` takes another turn while bit 0 of the byte read is 1 (R90); the loop has no bound. -/
def pseudoWaitIdleRepeats (rdata : Byte) : Bool := rdata.getLsbD 0

/-- `CLR <mask>` (R91). -/
def pseudoClr (mask : Byte) : Instr := .wrStatus mask

/-- `CLRCNT` (R91). -/
def pseudoClrCnt : Instr := .wrNackCnt 0x00#8

/-! ### The opcode map as the spec tables it -/

/-- One row of 30_encoding.md rule R83. -/
structure OpcodeRow where
  mnemonic : String
  matchWord : Htw
  mask : Htw
deriving DecidableEq, Repr

/-- A row matches when `(HTW & mask) == match`. -/
def OpcodeRow.matches (r : OpcodeRow) (h : Htw) : Bool := (h &&& r.mask) == r.matchWord

/-- The `RD` rows. -/
def opcodeRowsRead : List OpcodeRow := [
  ⟨"RD_CMD", 0x0000#13, 0x1F00#13⟩,
  ⟨"RD_STATUS", 0x0100#13, 0x1F00#13⟩,
  ⟨"RD_VIEW", 0x0200#13, 0x1F00#13⟩,
  ⟨"RD_B0", 0x0300#13, 0x1F00#13⟩,
  ⟨"RD_B1", 0x0400#13, 0x1F00#13⟩,
  ⟨"RD_B2", 0x0500#13, 0x1F00#13⟩,
  ⟨"RD_B3", 0x0600#13, 0x1F00#13⟩,
  ⟨"RD_B4", 0x0700#13, 0x1F00#13⟩,
  ⟨"RD_FTEN_LO", 0x0800#13, 0x1F00#13⟩,
  ⟨"RD_FTEN_HI", 0x0900#13, 0x1F00#13⟩,
  ⟨"RD_BUS_ADDR", 0x0A00#13, 0x1F00#13⟩,
  ⟨"RD_BUS_DATA", 0x0B00#13, 0x1F00#13⟩,
  ⟨"RD_NACK_CNT", 0x0C00#13, 0x1F00#13⟩,
  ⟨"RD_PHASE", 0x0D00#13, 0x1F00#13⟩,
  ⟨"RD_BITIDX", 0x0E00#13, 0x1F00#13⟩,
  ⟨"RD_RSVD_F", 0x0F00#13, 0x1F00#13⟩]

/-- The four commands and the six reserved ranges. -/
def opcodeRowsCommand : List OpcodeRow := [
  ⟨"NOP", 0x1000#13, 0x1FFF#13⟩,
  ⟨"ACQ", 0x1001#13, 0x1FFF#13⟩,
  ⟨"POLL", 0x1002#13, 0x1FFF#13⟩,
  ⟨"SEND", 0x1003#13, 0x1FFF#13⟩,
  ⟨"WR_CMD__rsvd_0x04..0x07", 0x1004#13, 0x1FFC#13⟩,
  ⟨"WR_CMD__rsvd_0x08..0x0F", 0x1008#13, 0x1FF8#13⟩,
  ⟨"WR_CMD__rsvd_0x10..0x1F", 0x1010#13, 0x1FF0#13⟩,
  ⟨"WR_CMD__rsvd_0x20..0x3F", 0x1020#13, 0x1FE0#13⟩,
  ⟨"WR_CMD__rsvd_0x40..0x7F", 0x1040#13, 0x1FC0#13⟩,
  ⟨"WR_CMD__rsvd_0x80..0xFF", 0x1080#13, 0x1F80#13⟩]

/-- The other write rows. -/
def opcodeRowsWrite : List OpcodeRow := [
  ⟨"WR_STATUS__m", 0x1100#13, 0x1F00#13⟩,
  ⟨"WR_VIEW__v", 0x1200#13, 0x1F00#13⟩,
  ⟨"WR_B0__v", 0x1300#13, 0x1F00#13⟩,
  ⟨"WR_B1__v", 0x1400#13, 0x1F00#13⟩,
  ⟨"WR_B2__v", 0x1500#13, 0x1F00#13⟩,
  ⟨"WR_B3__v", 0x1600#13, 0x1F00#13⟩,
  ⟨"WR_B4__v", 0x1700#13, 0x1F00#13⟩,
  ⟨"WR_FTEN_LO__v", 0x1800#13, 0x1F00#13⟩,
  ⟨"WR_FTEN_HI__v", 0x1900#13, 0x1F00#13⟩,
  ⟨"WR_BUS_ADDR__v", 0x1A00#13, 0x1F00#13⟩,
  ⟨"WR_BUS_DATA__v", 0x1B00#13, 0x1F00#13⟩,
  ⟨"WR_NACK_CNT__v", 0x1C00#13, 0x1F00#13⟩,
  ⟨"WR_PHASE__v", 0x1D00#13, 0x1F00#13⟩,
  ⟨"WR_BITIDX__v", 0x1E00#13, 0x1F00#13⟩,
  ⟨"WR_RSVD_F__v", 0x1F00#13, 0x1F00#13⟩]

/-- All 41 rows. -/
def opcodeTable : List OpcodeRow := opcodeRowsRead ++ (opcodeRowsCommand ++ opcodeRowsWrite)

/-- The row's mnemonic in spec/opcode_table.json. -/
def Instr.mnemonic : Instr → String
  | .rdCmd _ => "RD_CMD"
  | .rdStatus _ => "RD_STATUS"
  | .rdView _ => "RD_VIEW"
  | .rdB0 _ => "RD_B0"
  | .rdB1 _ => "RD_B1"
  | .rdB2 _ => "RD_B2"
  | .rdB3 _ => "RD_B3"
  | .rdB4 _ => "RD_B4"
  | .rdFtenLo _ => "RD_FTEN_LO"
  | .rdFtenHi _ => "RD_FTEN_HI"
  | .rdBusAddr _ => "RD_BUS_ADDR"
  | .rdBusData _ => "RD_BUS_DATA"
  | .rdNackCnt _ => "RD_NACK_CNT"
  | .rdPhase _ => "RD_PHASE"
  | .rdBitidx _ => "RD_BITIDX"
  | .rdRsvdF _ => "RD_RSVD_F"
  | .nop => "NOP"
  | .acq => "ACQ"
  | .poll => "POLL"
  | .send => "SEND"
  | .wrCmdRsvd04 _ => "WR_CMD__rsvd_0x04..0x07"
  | .wrCmdRsvd08 _ => "WR_CMD__rsvd_0x08..0x0F"
  | .wrCmdRsvd10 _ => "WR_CMD__rsvd_0x10..0x1F"
  | .wrCmdRsvd20 _ => "WR_CMD__rsvd_0x20..0x3F"
  | .wrCmdRsvd40 _ => "WR_CMD__rsvd_0x40..0x7F"
  | .wrCmdRsvd80 _ => "WR_CMD__rsvd_0x80..0xFF"
  | .wrStatus _ => "WR_STATUS__m"
  | .wrView _ => "WR_VIEW__v"
  | .wrB0 _ => "WR_B0__v"
  | .wrB1 _ => "WR_B1__v"
  | .wrB2 _ => "WR_B2__v"
  | .wrB3 _ => "WR_B3__v"
  | .wrB4 _ => "WR_B4__v"
  | .wrFtenLo _ => "WR_FTEN_LO__v"
  | .wrFtenHi _ => "WR_FTEN_HI__v"
  | .wrBusAddr _ => "WR_BUS_ADDR__v"
  | .wrBusData _ => "WR_BUS_DATA__v"
  | .wrNackCnt _ => "WR_NACK_CNT__v"
  | .wrPhase _ => "WR_PHASE__v"
  | .wrBitidx _ => "WR_BITIDX__v"
  | .wrRsvdF _ => "WR_RSVD_F__v"

end Sys2Proof
end

