-- ==== Sys2Proof/Config.lean ====
section
/-! DEFINITION. Sys2Proof/Config.lean: what an implementation fixes (the parameters of 00_scope.md rule R8), the levels at the
block's input ports (10_state.md rule R21), and the free values: the build's parameters and the inputs nobody has fixed. -/

namespace Sys2Proof

/-- The OPEN parameters (00_scope.md rule R8; 92_eei_decisions.md D28, D33 to D37).  The spec asks a model to take every one
of them as an argument; `Machine.State` carries them in its field `params`, which no step changes (log entry 3). -/
structure Params where
  /-- `F_CLK`, in Hz (D28). -/
  fClk : Nat
  /-- `T_START_CYC` (D33). -/
  tStartCyc : Nat
  /-- `T_SAMPLE_CYC` (D34). -/
  tSampleCyc : Nat
  /-- `T_DEB_CYC` (D35). -/
  tDebCyc : Nat
  /-- `CNT_W`, the width of the shared delay counter. -/
  cntW : Nat
  /-- `PARAM_HOST_BASE` (D36): no rule of the block reads it. -/
  hostBase : Nat
  /-- `T_INTERVAL` (D37), in clock cycles: a host duty (60_exceptions.md rule R222 HD6), which no rule of the block reads. -/
  tInterval : Nat
deriving DecidableEq, Repr, Inhabited

/-- The levels of the block's input ports in one clock cycle, as the edge that ends the cycle samples them
(10_state.md rule R21).  Every input is a defined 0 or 1 (60_exceptions.md rule R222 HN1, log entry 10). -/
structure Ports where
  /-- synchronous reset, active high -/
  rst : Bool
  /-- host write strobe -/
  hWe : Bool
  /-- host register address -/
  hAddr : RegAddr
  /-- host write data -/
  hWdata : Byte
  /-- level of the single-wire sensor line -/
  dqIn : Bool
  /-- forward button, active low -/
  fwdN : Bool
  /-- backward button, active low -/
  bwdN : Bool
  /-- bus controller: transmit-ready -/
  bcTxrdy : Bool
  /-- bus controller: start condition in progress -/
  bcStt : Bool
  /-- bus controller: not-acknowledge -/
  bcNack : Bool
  /-- bus controller: stop condition in progress -/
  bcStp : Bool
deriving DecidableEq, Repr, Inhabited

namespace Config

/-- `FRAME_BITS` (00_scope.md rules R8 and R9). -/
def frameBits : Nat := 40

/-- The parameters of the build: free, no value of them is known here (log entry 3). -/
opaque build : Params

/-- The levels the environment and the host put on the input ports in the cycle that follows edge number `n`, where the run has
fixed none: a free draw (00_scope.md rule R6; 93_implementation_defined.md U8, U9, U11; log entry 2). -/
opaque drawPorts : Nat → Ports

end Config

/-- What every delay phase needs of the parameters: each duration is at least 1 and fits the counter
(00_scope.md rule R8, rows `T_START_CYC` to `CNT_W`). -/
abbrev Params.DelaysFit (p : Params) : Prop :=
  1 ≤ p.tStartCyc ∧ 1 ≤ p.tSampleCyc ∧ 1 ≤ p.tDebCyc ∧
  p.tStartCyc ≤ 2 ^ p.cntW ∧ p.tSampleCyc ≤ 2 ^ p.cntW ∧ p.tDebCyc ≤ 2 ^ p.cntW

/-- The start pulse is long enough: `T_START_CYC / F_CLK >= 18 ms` (00_scope.md rule R8, 42_frame_decoder.md rule R153). -/
abbrev Params.StartPulseLongEnough (p : Params) : Prop :=
  0 < p.fClk ∧ 18 * p.fClk ≤ 1000 * p.tStartCyc

/-- The sample point lies strictly between the two pulse classes: with a `0` pulse at most `w0max` nanoseconds and a `1` pulse
at least `w1min` nanoseconds, the sufficient condition of 42_frame_decoder.md rule R160. -/
abbrev Params.Discriminates (p : Params) (w0max w1min : Nat) : Prop :=
  w0max * p.fClk < (p.tSampleCyc + 1) * 1000000000 ∧ (p.tSampleCyc + 2) * 1000000000 < w1min * p.fClk

end Sys2Proof
end

