-- ==== Sys2Proof/Machine/State.lean ====
section
/-! DEFINITION. Sys2Proof/Machine/State.lean: the state of TS25-CORE (10_state.md), plain data, and the state right after reset
(70_reset_and_hazards.md rules R230 and R232). -/

namespace Sys2Proof.Machine

/-- The sequencer's phases (10_state.md rule R23).  The register PHASE shows a phase's 8-bit code, `Phase.code`; codes outside
the table are never held, so they are no values of this type (log entry 5). -/
inductive Phase where
  | idle
  | fStart | fAckRel | fAckLow | fAckHigh | fRiseLow | fRiseHigh | fDelay | fSample | fFall
  | vCheck | vFdeb | vFrel | vBdeb | vBrel
  | tAddr | tStart | tWtx1 | tWr | tWstt | tNstop | tNwstp | tWtx2 | tStop | tWstp
deriving DecidableEq, Repr

/-- One input's synchroniser: `SYNC_STAGES = 2` flip-flops (10_state.md rule R30). -/
structure SyncChain where
  /-- `sync_s[0]`, which takes the input -/
  stage0 : Bool
  /-- `sync_s[1]`, which the sequencer reads -/
  stage1 : Bool
deriving DecidableEq, Repr

/-- The faults: none.  TS25-CORE has no trap and no condition of it is a fault of the model (60_exceptions.md rule R213); a
wait that never ends is an infinite run (rule R214).  Nobody raises one (log entry 7). -/
inductive Fault where
deriving DecidableEq, Repr

/-- The refusals. -/
inductive Refusal where
  /-- An instruction without a meaning: raised by an arm of `exec`, safe (the model stops where the hardware goes on).  No arm
  raises it: every instruction has its meaning. -/
  | notModelled (mnemonic : String)
deriving DecidableEq, Repr

/-- The state of TS25-CORE: its registers (10_state.md rules R23 to R41), the build's parameters, and the levels at the input
ports, now and in the cycles to come. -/
structure State where
  /-- the sequencer's phase (R23) -/
  phase : Phase
  /-- kind of the command accepted most recently (R25) -/
  op : BitVec 2
  /-- shared down-counter of the delay phases: the number its `CNT_W` bits hold, loaded modulo `2^CNT_W` (R26, log entry 4) -/
  cnt : Nat
  /-- bits sampled (R27) -/
  bitidx : BitVec 6
  /-- RawFrame shift register (R28) -/
  sr : Frame
  /-- synchroniser of `dq_in` (R30) -/
  dqSync : SyncChain
  /-- synchroniser of `fwd_n` (R30) -/
  fwdSync : SyncChain
  /-- synchroniser of `bwd_n` (R30) -/
  bwdSync : SyncChain
  /-- SR holds a complete frame (R31) -/
  frameRdy : Bool
  /-- ViewIndex (R32) -/
  view : BitVec 2
  /-- sticky: the view changed (R33) -/
  viewChg : Bool
  /-- sticky: a reserved opcode was written while idle (R34) -/
  ill : Bool
  /-- sticky: CMD was written while busy (R35) -/
  ovr : Bool
  /-- result of the last SEND (R36) -/
  busNack : Bool
  /-- saturating count of SENDs that ended in `Nack` (R38) -/
  nackCnt : Byte
  /-- target address for the next SEND (R39) -/
  busAddr : BusAddr
  /-- byte for the next SEND (R40) -/
  busData : Byte
  /-- target address latched at SEND acceptance (R41) -/
  btAddr : BusAddr
  /-- byte latched at SEND acceptance (R41) -/
  btData : Byte
  /-- MODEL: the build's OPEN parameters (00_scope.md rule R8); no step changes them (log entry 3) -/
  params : Params
  /-- MODEL: the levels at the input ports in this cycle (R21, log entry 1) -/
  ports : Ports
  /-- MODEL: the levels at the input ports in the cycles after this one, soonest first; free draws follow them (log entry 1) -/
  coming : List Ports
  /-- MODEL: how many edges have passed; numbers the free draws (log entry 2) -/
  edges : Nat
  /-- MODEL: the byte `h_rdata` carried in the cycle that just ended (40_host_interface.md rule R101, log entry 6) -/
  rdata : Byte
deriving DecidableEq, Repr

/-- The state in the first cycle after the last edge with `rst == 1` (70_reset_and_hazards.md rules R230 to R232): every register
at its reset value, `rst` low, every other input a free draw, and the build's parameters unknown. -/
def State.reset : State where
  phase := .idle
  op := 0
  cnt := 0
  bitidx := 0
  sr := 0
  dqSync := ⟨true, true⟩
  fwdSync := ⟨true, true⟩
  bwdSync := ⟨true, true⟩
  frameRdy := false
  view := 0
  viewChg := false
  ill := false
  ovr := false
  busNack := false
  nackCnt := 0
  busAddr := 0
  busData := 0
  btAddr := 0
  btData := 0
  params := Config.build
  ports := { Config.drawPorts 0 with rst := false }
  coming := []
  edges := 0
  rdata := 0

end Sys2Proof.Machine
end

