-- ==== Sys2Proof/Machine/Operands.lean ====
section
/-! DEFINITION. Sys2Proof/Machine/Operands.lean: the operand forms of 30_encoding.md rule R84, and the codes and words that cross
the host port. -/

namespace Sys2Proof.Machine

/-- A write to BUS_ADDR keeps bits [6:0] of the data and drops bit 7 (R84, R108). -/
def busAddrOperand (v : Byte) : BusAddr := v.extractLsb' 0 7

/-- A write to STATUS clears VIEW_CHG where mask bit 4 is 1 (R84, R107). -/
def clearsViewChg (m : Byte) : Bool := m.getLsbD 4

/-- A write to STATUS clears ILL where mask bit 5 is 1 (R84, R107). -/
def clearsIll (m : Byte) : Bool := m.getLsbD 5

/-- A write to STATUS clears OVR where mask bit 6 is 1 (R84, R107). -/
def clearsOvr (m : Byte) : Bool := m.getLsbD 6

/-- The phase's code, as PHASE shows it (10_state.md rule R23). -/
def Phase.code : Phase → Byte
  | .idle => 0x00#8
  | .fStart => 0x10#8
  | .fAckRel => 0x11#8
  | .fAckLow => 0x12#8
  | .fAckHigh => 0x13#8
  | .fRiseLow => 0x14#8
  | .fRiseHigh => 0x15#8
  | .fDelay => 0x16#8
  | .fSample => 0x17#8
  | .fFall => 0x18#8
  | .vCheck => 0x20#8
  | .vFdeb => 0x21#8
  | .vFrel => 0x22#8
  | .vBdeb => 0x23#8
  | .vBrel => 0x24#8
  | .tAddr => 0x30#8
  | .tStart => 0x31#8
  | .tWtx1 => 0x32#8
  | .tWr => 0x33#8
  | .tWstt => 0x34#8
  | .tNstop => 0x35#8
  | .tNwstp => 0x36#8
  | .tWtx2 => 0x37#8
  | .tStop => 0x38#8
  | .tWstp => 0x39#8

/-- The host transaction word on the register port in this cycle (30_encoding.md rule R80). -/
def portsHtw (p : Ports) : Htw := htwOf p.hWe p.hAddr p.hWdata

/-- The input ports with a host transaction word on the register port, and `rst` low, without which no transaction is carried
out (70_reset_and_hazards.md rule R230). -/
def portsWithHtw (h : Htw) (p : Ports) : Ports :=
  { p with rst := false, hWe := h.we, hAddr := h.addr, hWdata := h.data }

end Sys2Proof.Machine
end

