-- ==== Sys2Proof/Machine/Flags.lean ====
section
/-! DEFINITION. Sys2Proof/Machine/Flags.lean: the derived values of 10_state.md (rules R24, R29, R37, R42), the checksum
validator (43_checksum.md), and the read value of every host register (10_state.md rule R44). -/

namespace Sys2Proof.Machine

/-- `BUSY = (phase != IDLE)` (R24). -/
def State.busy (s : State) : Bool := !decide (s.phase = .idle)

/-! ### The frame's bytes (R29) -/

/-- `B0 = SR[39:32]`, humidity-integer. -/
def State.b0 (s : State) : Byte := s.sr.extractLsb' 32 8
/-- `B1 = SR[31:24]`, humidity-fraction. -/
def State.b1 (s : State) : Byte := s.sr.extractLsb' 24 8
/-- `B2 = SR[23:16]`, temperature-integer. -/
def State.b2 (s : State) : Byte := s.sr.extractLsb' 16 8
/-- `B3 = SR[15:8]`, temperature-fraction. -/
def State.b3 (s : State) : Byte := s.sr.extractLsb' 8 8
/-- `B4 = SR[7:0]`, checksum. -/
def State.b4 (s : State) : Byte := s.sr.extractLsb' 0 8

/-! ### Checksum validator (43_checksum.md) -/

/-- `sum10`, the exact sum of the four data bytes (R180). -/
def State.sum10 (s : State) : BitVec 10 :=
  s.b0.setWidth 10 + s.b1.setWidth 10 + s.b2.setWidth 10 + s.b3.setWidth 10

/-- `CHK_OK = (B4 == sum10[7:0])` (R180). -/
def State.chkOk (s : State) : Bool := s.b4 == s.sum10.extractLsb' 0 8

/-- `VALID = frame_rdy && CHK_OK` (R181). -/
def State.valid (s : State) : Bool := s.frameRdy && s.chkOk

/-- ChecksumMismatch (43_checksum.md rule R181, 60_exceptions.md rule R211): a complete frame that fails the law.  It is never
latched: it is read as FRAME_RDY 1 with VALID 0. -/
def State.checksumMismatch (s : State) : Bool := s.frameRdy && !s.chkOk

/-! ### Fahrenheit (R37) -/

/-- `FTENTHS = zext_16(B2) * 18 + 320`. -/
def State.ftenths (s : State) : BitVec 16 := s.b2.setWidth 16 * 18#16 + 320#16

/-! ### STATUS (R42) -/

/-- STATUS, bit 7 first: reserved, OVR, ILL, VIEW_CHG, NACK, VALID, FRAME_RDY, BUSY. -/
def State.status (s : State) : Byte :=
  BitVec.ofBool false ++ BitVec.ofBool s.ovr ++ BitVec.ofBool s.ill ++ BitVec.ofBool s.viewChg ++
    BitVec.ofBool s.busNack ++ BitVec.ofBool s.valid ++ BitVec.ofBool s.frameRdy ++ BitVec.ofBool s.busy

/-! ### The register map's read values (R44) -/

/-- READVAL (40_host_interface.md rule R101): the "read value" column of R44. -/
def readVal (r : Reg) (s : State) : Byte :=
  match r with
  | .cmd => s.op.setWidth 8
  | .status => s.status
  | .view => s.view.setWidth 8
  | .b0 => s.b0
  | .b1 => s.b1
  | .b2 => s.b2
  | .b3 => s.b3
  | .b4 => s.b4
  | .ftenLo => s.ftenths.extractLsb' 0 8
  | .ftenHi => s.ftenths.extractLsb' 8 8
  | .busAddr => s.busAddr.setWidth 8
  | .busData => s.busData
  | .nackCnt => s.nackCnt
  | .phase => s.phase.code
  | .bitidx => s.bitidx.setWidth 8
  | .rsvdF => 0x00#8

end Sys2Proof.Machine
end

