-- ==== Sys2Proof/Machine/Ops.lean ====
section
/-! DEFINITION. Sys2Proof/Machine/Ops.lean: the operations every unit shares: the synchronisers (10_state.md rule R30), the
phase shapes WAIT and DELAY (00_scope.md rule R12), recording a condition (00_scope.md rule R11, 60_exceptions.md rule R210),
the reset edge (70_reset_and_hazards.md rule R230), and the passage to the next cycle's inputs. -/

namespace Sys2Proof.Machine

/-! ### Synchronisers (R30) -/

/-- `line(s) = sync_s[SYNC_STAGES-1]`, the only form in which the sequencer reads a synchronised input. -/
def SyncChain.line (c : SyncChain) : Bool := c.stage1

/-- `sync_s[0] <- s` and `sync_s[1] <- sync_s[0]`. -/
def SyncChain.shift (level : Bool) (c : SyncChain) : SyncChain := ⟨level, c.stage0⟩

/-- Every synchroniser takes its input's level at this edge. -/
def State.sampleInputs (s : State) : State :=
  { s with
    dqSync := s.dqSync.shift s.ports.dqIn
    fwdSync := s.fwdSync.shift s.ports.fwdN
    bwdSync := s.bwdSync.shift s.ports.bwdN }

/-! ### Phase shapes (R12) -/

/-- `phase <- P`. -/
def State.goto (p : Phase) (s : State) : State := { s with phase := p }

/-- `WAIT(cond) -> exit`: if the condition holds, the exit edge; otherwise the phase stays. -/
def waitFor (cond : Bool) (exit : State → State) (s : State) : State := if cond then exit s else s

/-- `n - 1` as a counter of `w` bits holds it (10_state.md rule R26): for the `1 <= n <= 2^w` that 00_scope.md rule R8 asks for
it is `n - 1`; outside that range the counter keeps the low bits, as a subtraction of `w` bits does (log entry 4). -/
def cntLoad (w n : Nat) : Nat := (n + (2 ^ w - 1)) % 2 ^ w

/-- The transition into `DELAY(n)`: `cnt <- n - 1`. -/
def State.startDelay (n : Nat) (p : Phase) (s : State) : State := { s with cnt := cntLoad s.params.cntW n, phase := p }

/-- One cycle of a delay phase: the exit edge when `cnt == 0`, else `cnt <- cnt - 1`. -/
def delay (exit : State → State) (s : State) : State :=
  if s.cnt = 0 then exit s else { s with cnt := s.cnt - 1 }

/-! ### Conditions (R11, R210)

TS25-CORE has no trap mechanism: a condition is recorded in status bits at the edge where it occurs, control goes nowhere, and
there is no return (60_exceptions.md rules R213 and R219). -/

/-- The conditions of 60_exceptions.md rule R210. -/
inductive Condition where
  | checksumMismatch | busNack | unboundedWait | illegalCommand | commandOverrun
deriving DecidableEq, Repr

/-- `nack_cnt + 1`, saturating at 255 (41_bus_transactor.md rule R135). -/
def saturatingSucc (n : Byte) : Byte := if n = 255#8 then 255#8 else n + 1#8

/-- `raise <Condition>`: the bits the condition is recorded in.  ChecksumMismatch is FRAME_RDY with VALID derived as 0 (R211), so
its record is `frame_rdy`, which the end of every ACQ sets; UnboundedWait has no record but the phase it waits in (R214). -/
def raise (c : Condition) (s : State) : State :=
  match c with
  | .checksumMismatch => { s with frameRdy := true }
  | .busNack => { s with busNack := true, nackCnt := saturatingSucc s.nackCnt }
  | .unboundedWait => s
  | .illegalCommand => { s with ill := true }
  | .commandOverrun => { s with ovr := true }

/-! ### Command dispatch (40_host_interface.md rule R103) -/

/-- A write to CMD: an overrun while BUSY (R105), otherwise what the opcode does. -/
def commandWrite (whenIdle : State → State) (s : State) : State :=
  if s.busy then raise .commandOverrun s else whenIdle s

/-! ### Reset (R230) -/

/-- An edge with `rst == 1`: every register takes its reset value, whatever the other inputs are.  The byte on `h_rdata` is the
reset state's value for `h_addr` (10_state.md rule R21). -/
def State.resetEdge (s : State) : State :=
  let t := { State.reset with params := s.params, ports := s.ports, coming := s.coming, edges := s.edges }
  { t with rdata := readVal (Reg.ofAddr s.ports.hAddr) t }

/-! ### The input ports -/

/-- The host presents a transaction in this cycle. -/
def State.presentHtw (h : Htw) (s : State) : State := { s with ports := portsWithHtw h s.ports }

/-- After an edge the next cycle's input levels stand at the ports: those the run has fixed, then free draws (log entries 1 and
2). -/
def State.nextCycle (s : State) : State :=
  match s.coming with
  | [] => { s with ports := Config.drawPorts (s.edges + 1), edges := s.edges + 1 }
  | p :: rest => { s with ports := p, coming := rest, edges := s.edges + 1 }

end Sys2Proof.Machine
end

