-- ==== Sys2Proof/Machine/BusTransactor.lean ====
section
/-! DEFINITION. Sys2Proof/Machine/BusTransactor.lean: the bus transactor's acceptance and phases (41_bus_transactor.md).  The
controller's flags are read at the ports, in the cycle itself: they pass through no synchroniser (10_state.md rule R30). -/

namespace Sys2Proof.Machine

/-- ACCEPT_SEND (R121). -/
def acceptSend (s : State) : State :=
  ({ s with btAddr := s.busAddr, btData := s.busData, busNack := false }).goto .tAddr

/-- T_ADDR (R124). -/
def tAddr (s : State) : State := s.goto .tStart

/-- T_START (R125). -/
def tStart (s : State) : State := s.goto .tWtx1

/-- T_WTX1 (R126): `WAIT(bc_txrdy == 1) -> T_WR`. -/
def tWtx1 (s : State) : State := waitFor s.ports.bcTxrdy (State.goto .tWr) s

/-- T_WR (R127). -/
def tWr (s : State) : State := s.goto .tWstt

/-- T_WSTT (R128): leaves when `bc_stt == 0`; `bc_nack` is read in that cycle only. -/
def tWstt (s : State) : State :=
  waitFor (!s.ports.bcStt) (fun t => if t.ports.bcNack then t.goto .tNstop else t.goto .tWtx2) s

/-- T_NSTOP (R129). -/
def tNstop (s : State) : State := s.goto .tNwstp

/-- T_NWSTP (R130): `WAIT(bc_stp == 0)`, then the `Nack` completion (R134): BusNack is recorded (R135, R212). -/
def tNwstp (s : State) : State := waitFor (!s.ports.bcStp) (fun t => (raise .busNack t).goto .idle) s

/-- T_WTX2 (R131): `WAIT(bc_txrdy == 1) -> T_STOP`. -/
def tWtx2 (s : State) : State := waitFor s.ports.bcTxrdy (State.goto .tStop) s

/-- T_STOP (R132). -/
def tStop (s : State) : State := s.goto .tWstp

/-- T_WSTP (R133): `WAIT(bc_stp == 0)`, then the success completion (R134). -/
def tWstp (s : State) : State :=
  waitFor (!s.ports.bcStp) (fun t => ({ t with busNack := false }).goto .idle) s

end Sys2Proof.Machine
end

