-- ==== Sys2Proof/Machine/FrameDecoder.lean ====
section
/-! DEFINITION. Sys2Proof/Machine/FrameDecoder.lean: the frame decoder's acceptance and phases (42_frame_decoder.md).  Each
function is what the phase does at the edge that ends a cycle spent in it. -/

namespace Sys2Proof.Machine

/-- ACCEPT_ACQ (R152). -/
def acceptAcq (s : State) : State :=
  ({ s with sr := 0, bitidx := 0, frameRdy := false }).startDelay s.params.tStartCyc .fStart

/-- F_START (R153): `DELAY(T_START_CYC) -> F_ACK_REL`. -/
def fStart (s : State) : State := delay (State.goto .fAckRel) s

/-- F_ACK_REL (R154): `WAIT(line(dq) == 1) -> F_ACK_LOW`. -/
def fAckRel (s : State) : State := waitFor s.dqSync.line (State.goto .fAckLow) s

/-- F_ACK_LOW (R155): `WAIT(line(dq) == 0) -> F_ACK_HIGH`. -/
def fAckLow (s : State) : State := waitFor (!s.dqSync.line) (State.goto .fAckHigh) s

/-- F_ACK_HIGH (R155): `WAIT(line(dq) == 1) -> F_RISE_LOW`. -/
def fAckHigh (s : State) : State := waitFor s.dqSync.line (State.goto .fRiseLow) s

/-- F_RISE_LOW (R156): `WAIT(line(dq) == 0) -> F_RISE_HIGH`. -/
def fRiseLow (s : State) : State := waitFor (!s.dqSync.line) (State.goto .fRiseHigh) s

/-- F_RISE_HIGH (R156): `WAIT(line(dq) == 1) -> F_DELAY`, whose transition writes `cnt <- T_SAMPLE_CYC - 1`. -/
def fRiseHigh (s : State) : State := waitFor s.dqSync.line (State.startDelay s.params.tSampleCyc .fDelay) s

/-- F_DELAY (R156): `DELAY(T_SAMPLE_CYC) -> F_SAMPLE`. -/
def fDelay (s : State) : State := delay (State.goto .fSample) s

/-- `{SR[38:0], bit}` (R157). -/
def shiftIn (sr : Frame) (bit : Bool) : Frame := sr.extractLsb' 0 39 ++ BitVec.ofBool bit

/-- F_SAMPLE (R157). -/
def fSample (s : State) : State :=
  { s with sr := shiftIn s.sr s.dqSync.line, bitidx := s.bitidx + 1, phase := .fFall }

/-- Done (R158): the frame is ready; a frame that fails the checksum is thereby recorded as ChecksumMismatch (R211). -/
def acqDone (s : State) : State := ({ s with frameRdy := true }).goto .idle

/-- F_FALL (R158): waits for the low level, then Done after the 40th bit, else the next slot. -/
def fFall (s : State) : State :=
  waitFor (!s.dqSync.line)
    (fun t => if t.bitidx.toNat = Config.frameBits then acqDone t else t.goto .fRiseLow) s

end Sys2Proof.Machine
end

