-- ==== Sys2Proof/Machine/ViewFsm.lean ====
section
/-! DEFINITION. Sys2Proof/Machine/ViewFsm.lean: the view state machine's acceptance and phases (44_view_fsm.md). -/

namespace Sys2Proof.Machine

/-- ACCEPT_POLL (R192). -/
def acceptPoll (s : State) : State := s.goto .vCheck

/-- V_CHECK (R193): both buttons, active low, read in this one cycle; forward has priority. -/
def vCheck (s : State) : State :=
  if s.fwdSync.line = false then s.startDelay s.params.tDebCyc .vFdeb
  else if s.bwdSync.line = false then s.startDelay s.params.tDebCyc .vBdeb
  else s.goto .idle

/-- `(view + 1) mod 4` (R194). -/
def viewForward (v : BitVec 2) : BitVec 2 := v + 1#2

/-- `(view == 0) ? 3 : view - 1` (R196). -/
def viewBackward (v : BitVec 2) : BitVec 2 := if v = 0#2 then 3#2 else v - 1#2

/-- V_FDEB (R194): `DELAY(T_DEB_CYC)`, then the forward step. -/
def vFdeb (s : State) : State :=
  delay (fun t => ({ t with view := viewForward t.view, viewChg := true }).goto .vFrel) s

/-- V_FREL (R195): `WAIT(line(fwd_n) == 1) -> IDLE`. -/
def vFrel (s : State) : State := waitFor s.fwdSync.line (State.goto .idle) s

/-- V_BDEB (R196): `DELAY(T_DEB_CYC)`, then the backward step. -/
def vBdeb (s : State) : State :=
  delay (fun t => ({ t with view := viewBackward t.view, viewChg := true }).goto .vBrel) s

/-- V_BREL (R197): `WAIT(line(bwd_n) == 1) -> IDLE`. -/
def vBrel (s : State) : State := waitFor s.bwdSync.line (State.goto .idle) s

end Sys2Proof.Machine
end

