-- ==== Sys2Proof/Machine/Sequencer.lean ====
section
/-! DEFINITION. Sys2Proof/Machine/Sequencer.lean: the sequencer's step, and one clock edge with a host transaction. -/

namespace Sys2Proof.Machine

/-- What the sequencer does at an edge, by its phase (10_state.md rule R23).  IDLE changes nothing (40_host_interface.md rule
R103, 60_exceptions.md rule R225). -/
def sequencerStep (s : State) : State :=
  match s.phase with
  | .idle => s
  | .fStart => fStart s
  | .fAckRel => fAckRel s
  | .fAckLow => fAckLow s
  | .fAckHigh => fAckHigh s
  | .fRiseLow => fRiseLow s
  | .fRiseHigh => fRiseHigh s
  | .fDelay => fDelay s
  | .fSample => fSample s
  | .fFall => fFall s
  | .vCheck => vCheck s
  | .vFdeb => vFdeb s
  | .vFrel => vFrel s
  | .vBdeb => vBdeb s
  | .vBrel => vBrel s
  | .tAddr => tAddr s
  | .tStart => tStart s
  | .tWtx1 => tWtx1 s
  | .tWr => tWr s
  | .tWstt => tWstt s
  | .tNstop => tNstop s
  | .tNwstp => tNwstp s
  | .tWtx2 => tWtx2 s
  | .tStop => tStop s
  | .tWstp => tWstp s

/-- One edge with `rst == 0`: the host's write, the sequencer, the synchronisers (40_host_interface.md rule R102).

All read the values before the edge (00_scope.md rule R7).  A write made while BUSY touches no register the sequencer's step
reads but `nack_cnt`, and there 60_exceptions.md rule R217 asks for this order (the clear first, then the increment; and the
hardware's set of `view_chg` over the host's clear); a write that accepts a command is made in IDLE, where the sequencer does
nothing, which is why BUSY is that of the state before the edge; the synchronisers go last, so that the sequencer sees the
levels before the edge (log entry 11). -/
def clockEdge (write : State → State) (s : State) : State :=
  let t := write s
  let u := if s.busy then sequencerStep t else t
  u.sampleInputs

/-- One cycle of the host port: the byte of the addressed register before the edge goes out on `h_rdata`, on reads and on writes
(40_host_interface.md rule R101), and the edge is made. -/
def hostCycle (r : Reg) (write : State → State) (s : State) : State :=
  { clockEdge write s with rdata := readVal r s }

end Sys2Proof.Machine
end

