-- ==== Sys2Proof/Machine/Commands.lean ====
section
/-! DEFINITION. Sys2Proof/Machine/Commands.lean: the four commands, `WR CMD` with a defined opcode (40_host_interface.md rule
R103).  Their run after acceptance is the sequencer's. -/

namespace Sys2Proof.Machine

/-- `NOP` (R104): nothing while idle, an overrun while busy. -/
def execNop (s : State) : Host.Outcome State Fault Refusal := .next (hostCycle .cmd (commandWrite id) s)

/-- `ACQ` (R103, R150, R152). -/
def execAcq (s : State) : Host.Outcome State Fault Refusal :=
  .next (hostCycle .cmd (commandWrite fun t => acceptAcq ({ t with op := 1 })) s)

/-- `POLL` (R103, R190, R192). -/
def execPoll (s : State) : Host.Outcome State Fault Refusal :=
  .next (hostCycle .cmd (commandWrite fun t => acceptPoll ({ t with op := 2 })) s)

/-- `SEND` (R103, R120, R121). -/
def execSend (s : State) : Host.Outcome State Fault Refusal :=
  .next (hostCycle .cmd (commandWrite fun t => acceptSend ({ t with op := 3 })) s)

end Sys2Proof.Machine
end

