-- ==== Sys2Proof/Machine/IgnoredWrites.lean ====
section
/-! DEFINITION. Sys2Proof/Machine/IgnoredWrites.lean: writes to the read-only registers and to the reserved address
(40_host_interface.md rule R111): no state changes, no flag is set. -/

namespace Sys2Proof.Machine

/-- `WR VIEW, v`. -/
def execWrView (s : State) : Host.Outcome State Fault Refusal := .next (hostCycle .view id s)

/-- `WR B0, v`. -/
def execWrB0 (s : State) : Host.Outcome State Fault Refusal := .next (hostCycle .b0 id s)

/-- `WR B1, v`. -/
def execWrB1 (s : State) : Host.Outcome State Fault Refusal := .next (hostCycle .b1 id s)

/-- `WR B2, v`. -/
def execWrB2 (s : State) : Host.Outcome State Fault Refusal := .next (hostCycle .b2 id s)

/-- `WR B3, v`. -/
def execWrB3 (s : State) : Host.Outcome State Fault Refusal := .next (hostCycle .b3 id s)

/-- `WR B4, v`. -/
def execWrB4 (s : State) : Host.Outcome State Fault Refusal := .next (hostCycle .b4 id s)

/-- `WR FTEN_LO, v`. -/
def execWrFtenLo (s : State) : Host.Outcome State Fault Refusal := .next (hostCycle .ftenLo id s)

/-- `WR FTEN_HI, v`. -/
def execWrFtenHi (s : State) : Host.Outcome State Fault Refusal := .next (hostCycle .ftenHi id s)

/-- `WR PHASE, v`. -/
def execWrPhase (s : State) : Host.Outcome State Fault Refusal := .next (hostCycle .phase id s)

/-- `WR BITIDX, v`. -/
def execWrBitidx (s : State) : Host.Outcome State Fault Refusal := .next (hostCycle .bitidx id s)

/-- `WR 0xF, v`. -/
def execWrRsvdF (s : State) : Host.Outcome State Fault Refusal := .next (hostCycle .rsvdF id s)

end Sys2Proof.Machine
end

