-- ==== Sys2Proof/Machine/Reads.lean ====
section
/-! DEFINITION. Sys2Proof/Machine/Reads.lean: the 16 reads (40_host_interface.md rule R101).  A read changes no state of its own
(92_eei_decisions.md D23): the edge it ends with is the running command's alone. -/

namespace Sys2Proof.Machine

/-- `RD CMD`: `h_rdata` is `{6'b0, op}` (R43). -/
def execRdCmd (s : State) : Host.Outcome State Fault Refusal := .next (hostCycle .cmd id s)

/-- `RD STATUS`: `h_rdata` is STATUS (R42). -/
def execRdStatus (s : State) : Host.Outcome State Fault Refusal := .next (hostCycle .status id s)

/-- `RD VIEW`: `h_rdata` is `{6'b0, view}` (R32). -/
def execRdView (s : State) : Host.Outcome State Fault Refusal := .next (hostCycle .view id s)

/-- `RD B0`: `h_rdata` is `SR[39:32]`. -/
def execRdB0 (s : State) : Host.Outcome State Fault Refusal := .next (hostCycle .b0 id s)

/-- `RD B1`: `h_rdata` is `SR[31:24]`. -/
def execRdB1 (s : State) : Host.Outcome State Fault Refusal := .next (hostCycle .b1 id s)

/-- `RD B2`: `h_rdata` is `SR[23:16]`. -/
def execRdB2 (s : State) : Host.Outcome State Fault Refusal := .next (hostCycle .b2 id s)

/-- `RD B3`: `h_rdata` is `SR[15:8]`. -/
def execRdB3 (s : State) : Host.Outcome State Fault Refusal := .next (hostCycle .b3 id s)

/-- `RD B4`: `h_rdata` is `SR[7:0]`. -/
def execRdB4 (s : State) : Host.Outcome State Fault Refusal := .next (hostCycle .b4 id s)

/-- `RD FTEN_LO`: `h_rdata` is `FTENTHS[7:0]` (R37). -/
def execRdFtenLo (s : State) : Host.Outcome State Fault Refusal := .next (hostCycle .ftenLo id s)

/-- `RD FTEN_HI`: `h_rdata` is `FTENTHS[15:8]` (R37). -/
def execRdFtenHi (s : State) : Host.Outcome State Fault Refusal := .next (hostCycle .ftenHi id s)

/-- `RD BUS_ADDR`: `h_rdata` is `{1'b0, bus_addr}` (R39). -/
def execRdBusAddr (s : State) : Host.Outcome State Fault Refusal := .next (hostCycle .busAddr id s)

/-- `RD BUS_DATA`: `h_rdata` is `bus_data` (R40). -/
def execRdBusData (s : State) : Host.Outcome State Fault Refusal := .next (hostCycle .busData id s)

/-- `RD NACK_CNT`: `h_rdata` is `nack_cnt` (R38). -/
def execRdNackCnt (s : State) : Host.Outcome State Fault Refusal := .next (hostCycle .nackCnt id s)

/-- `RD PHASE`: `h_rdata` is the phase's code (R23). -/
def execRdPhase (s : State) : Host.Outcome State Fault Refusal := .next (hostCycle .phase id s)

/-- `RD BITIDX`: `h_rdata` is `{2'b00, bitidx}` (R27). -/
def execRdBitidx (s : State) : Host.Outcome State Fault Refusal := .next (hostCycle .bitidx id s)

/-- `RD 0xF`: `h_rdata` is 0x00 (R44). -/
def execRdRsvdF (s : State) : Host.Outcome State Fault Refusal := .next (hostCycle .rsvdF id s)

end Sys2Proof.Machine
end

