-- ==== Sys2Proof/Machine/Reserved.lean ====
section
/-! DEFINITION. Sys2Proof/Machine/Reserved.lean: `WR CMD` with a reserved opcode (40_host_interface.md rule R106): IllegalCommand
while idle, CommandOverrun and nothing else while busy (60_exceptions.md rule R217 (b)).  The opcode is not kept. -/

namespace Sys2Proof.Machine

/-- `WR CMD, cmd` with `cmd` in 0x04..0x07. -/
def execWrCmdRsvd04 (s : State) : Host.Outcome State Fault Refusal :=
  .next (hostCycle .cmd (commandWrite (raise .illegalCommand)) s)

/-- `WR CMD, cmd` with `cmd` in 0x08..0x0F. -/
def execWrCmdRsvd08 (s : State) : Host.Outcome State Fault Refusal :=
  .next (hostCycle .cmd (commandWrite (raise .illegalCommand)) s)

/-- `WR CMD, cmd` with `cmd` in 0x10..0x1F. -/
def execWrCmdRsvd10 (s : State) : Host.Outcome State Fault Refusal :=
  .next (hostCycle .cmd (commandWrite (raise .illegalCommand)) s)

/-- `WR CMD, cmd` with `cmd` in 0x20..0x3F. -/
def execWrCmdRsvd20 (s : State) : Host.Outcome State Fault Refusal :=
  .next (hostCycle .cmd (commandWrite (raise .illegalCommand)) s)

/-- `WR CMD, cmd` with `cmd` in 0x40..0x7F. -/
def execWrCmdRsvd40 (s : State) : Host.Outcome State Fault Refusal :=
  .next (hostCycle .cmd (commandWrite (raise .illegalCommand)) s)

/-- `WR CMD, cmd` with `cmd` in 0x80..0xFF. -/
def execWrCmdRsvd80 (s : State) : Host.Outcome State Fault Refusal :=
  .next (hostCycle .cmd (commandWrite (raise .illegalCommand)) s)

end Sys2Proof.Machine
end

