-- ==== Sys2Proof/Machine/Writes.lean ====
section
/-! DEFINITION. Sys2Proof/Machine/Writes.lean: the writes that have an effect besides CMD's (40_host_interface.md rules R107 to
R110).  They are allowed in any cycle, also while BUSY. -/

namespace Sys2Proof.Machine

/-- The write-1-to-clear of STATUS (R107): bits 4, 5 and 6 of the mask. -/
def clearSticky (m : Byte) (s : State) : State :=
  { s with
    viewChg := s.viewChg && !clearsViewChg m
    ill := s.ill && !clearsIll m
    ovr := s.ovr && !clearsOvr m }

/-- `WR STATUS, m` (R107). -/
def execWrStatus (m : Byte) (s : State) : Host.Outcome State Fault Refusal := .next (hostCycle .status (clearSticky m) s)

/-- `WR BUS_ADDR, v` (R108): `bus_addr <- v[6:0]`. -/
def execWrBusAddr (v : Byte) (s : State) : Host.Outcome State Fault Refusal :=
  .next (hostCycle .busAddr (fun t => { t with busAddr := busAddrOperand v }) s)

/-- `WR BUS_DATA, v` (R109): `bus_data <- v`. -/
def execWrBusData (v : Byte) (s : State) : Host.Outcome State Fault Refusal :=
  .next (hostCycle .busData (fun t => { t with busData := v }) s)

/-- `WR NACK_CNT, v` (R110): `nack_cnt <- 0`, whatever `v`; a `Nack` completion at the same edge counts from that 0. -/
def execWrNackCnt (s : State) : Host.Outcome State Fault Refusal :=
  .next (hostCycle .nackCnt (fun t => { t with nackCnt := 0 }) s)

end Sys2Proof.Machine
end

