-- ==== Sys2Proof/Machine/Dispatch.lean ====
section
/-! DEFINITION. Sys2Proof/Machine/Dispatch.lean: the meaning of every instruction, one arm each. -/

namespace Sys2Proof.Machine

def exec (i : Instr) (s : State) : Host.Outcome State Fault Refusal :=
  match i with
  | .rdCmd _ => Sys2Proof.Machine.execRdCmd s
  | .rdStatus _ => Sys2Proof.Machine.execRdStatus s
  | .rdView _ => Sys2Proof.Machine.execRdView s
  | .rdB0 _ => Sys2Proof.Machine.execRdB0 s
  | .rdB1 _ => Sys2Proof.Machine.execRdB1 s
  | .rdB2 _ => Sys2Proof.Machine.execRdB2 s
  | .rdB3 _ => Sys2Proof.Machine.execRdB3 s
  | .rdB4 _ => Sys2Proof.Machine.execRdB4 s
  | .rdFtenLo _ => Sys2Proof.Machine.execRdFtenLo s
  | .rdFtenHi _ => Sys2Proof.Machine.execRdFtenHi s
  | .rdBusAddr _ => Sys2Proof.Machine.execRdBusAddr s
  | .rdBusData _ => Sys2Proof.Machine.execRdBusData s
  | .rdNackCnt _ => Sys2Proof.Machine.execRdNackCnt s
  | .rdPhase _ => Sys2Proof.Machine.execRdPhase s
  | .rdBitidx _ => Sys2Proof.Machine.execRdBitidx s
  | .rdRsvdF _ => Sys2Proof.Machine.execRdRsvdF s
  | .nop => Sys2Proof.Machine.execNop s
  | .acq => Sys2Proof.Machine.execAcq s
  | .poll => Sys2Proof.Machine.execPoll s
  | .send => Sys2Proof.Machine.execSend s
  | .wrCmdRsvd04 _ => Sys2Proof.Machine.execWrCmdRsvd04 s
  | .wrCmdRsvd08 _ => Sys2Proof.Machine.execWrCmdRsvd08 s
  | .wrCmdRsvd10 _ => Sys2Proof.Machine.execWrCmdRsvd10 s
  | .wrCmdRsvd20 _ => Sys2Proof.Machine.execWrCmdRsvd20 s
  | .wrCmdRsvd40 _ => Sys2Proof.Machine.execWrCmdRsvd40 s
  | .wrCmdRsvd80 _ => Sys2Proof.Machine.execWrCmdRsvd80 s
  | .wrStatus m => Sys2Proof.Machine.execWrStatus m s
  | .wrView _ => Sys2Proof.Machine.execWrView s
  | .wrB0 _ => Sys2Proof.Machine.execWrB0 s
  | .wrB1 _ => Sys2Proof.Machine.execWrB1 s
  | .wrB2 _ => Sys2Proof.Machine.execWrB2 s
  | .wrB3 _ => Sys2Proof.Machine.execWrB3 s
  | .wrB4 _ => Sys2Proof.Machine.execWrB4 s
  | .wrFtenLo _ => Sys2Proof.Machine.execWrFtenLo s
  | .wrFtenHi _ => Sys2Proof.Machine.execWrFtenHi s
  | .wrBusAddr v => Sys2Proof.Machine.execWrBusAddr v s
  | .wrBusData v => Sys2Proof.Machine.execWrBusData v s
  | .wrNackCnt _ => Sys2Proof.Machine.execWrNackCnt s
  | .wrPhase _ => Sys2Proof.Machine.execWrPhase s
  | .wrBitidx _ => Sys2Proof.Machine.execWrBitidx s
  | .wrRsvdF _ => Sys2Proof.Machine.execWrRsvdF s

end Sys2Proof.Machine
end

