-- ==== Sys2Proof/Machine/Outputs.lean ====
section
/-! DEFINITION. Sys2Proof/Machine/Outputs.lean: the block's outputs in a cycle, as functions of the state (10_state.md rules R21
and R45).  While `rst == 1` every output takes its reset drive. -/

namespace Sys2Proof.Machine

/-- `dq_drive_low`: 1 pulls the sensor line low, 0 releases it. -/
def State.dqDriveLow (s : State) : Bool := !s.ports.rst && decide (s.phase = .fStart)

/-- `bc_sa` -/
def State.bcSa (s : State) : BusAddr := if s.ports.rst then 0 else s.btAddr

/-- `bc_sa_we` -/
def State.bcSaWe (s : State) : Bool := !s.ports.rst && decide (s.phase = .tAddr)

/-- `bc_start_w` -/
def State.bcStartW (s : State) : Bool := !s.ports.rst && decide (s.phase = .tStart)

/-- `bc_tx_data` -/
def State.bcTxData (s : State) : Byte := if s.ports.rst then 0 else s.btData

/-- `bc_tx_we` -/
def State.bcTxWe (s : State) : Bool := !s.ports.rst && decide (s.phase = .tWr)

/-- `bc_stop` -/
def State.bcStop (s : State) : Bool := !s.ports.rst && (decide (s.phase = .tNstop) || decide (s.phase = .tStop))

/-- `h_rdata`, combinational in `h_addr` (40_host_interface.md rule R101); while `rst == 1`, the reset state's value (R21). -/
def State.hRdata (s : State) : Byte :=
  if s.ports.rst then readVal (Reg.ofAddr s.ports.hAddr) s.resetEdge
  else readVal (Reg.ofAddr s.ports.hAddr) s

end Sys2Proof.Machine
end

