-- ==== Sys2Proof/Machine/Step.lean ====
section
/-! DEFINITION. Sys2Proof/Machine/Step.lean: one rising edge of `clk` (00_scope.md rule R7). -/

namespace Sys2Proof.Machine

/-- After a next state, the next cycle's inputs come to the ports. -/
def afterEdge (o : Host.Outcome State Fault Refusal) : Host.Outcome State Fault Refusal :=
  match o with
  | .next t => .next t.nextCycle
  | .fault r => .fault r
  | .refused r => .refused r

/-- One edge: the reset edge while `rst == 1`, which overrides everything (60_exceptions.md rule R217 (a)); otherwise the host
transaction at the register port, decoded and carried out. -/
def step (s : State) : Host.Outcome State Fault Refusal :=
  if s.ports.rst then afterEdge (.next s.resetEdge) else afterEdge (exec (decode (portsHtw s.ports)) s)

/-- The state with the word `w` on the register port in this cycle, which is what the very next step carries out. -/
def State.withFetchWord (s : State) (_nbits w : Nat) : State := s.presentHtw (BitVec.ofNat 13 w)

end Sys2Proof.Machine
end

