-- ==== Sys2Proof/Safety.lean ====
section
/-! DEFINITION. Sys2Proof/Safety.lean: runs, and what counts as a safe one: the invariant of the state, the waits, and the
contracts of the environment and the host (41_bus_transactor.md rule R122, 42_frame_decoder.md rule R151, 44_view_fsm.md rule
R191, 60_exceptions.md rule R222), which claims take as premises and the machine does not check. -/

namespace Sys2Proof.Machine

/-! ### Runs -/

/-- The state in the next cycle.  `step` always answers one (00_scope.md rule R7); a state it did not answer would stand still. -/
def State.tick (s : State) : State :=
  match step s with
  | .next t => t
  | .fault _ => s
  | .refused _ => s

/-- The state `n` cycles later. -/
def State.after : Nat → State → State
  | 0, s => s
  | n + 1, s => (State.after n s).tick

/-- No reset edge among the next `n` edges. -/
abbrev State.NoReset (n : Nat) (s : State) : Prop := ∀ k < n, (s.after k).ports.rst = false

/-- The instruction the host presents in this cycle. -/
def State.presented (s : State) : Instr := decode (portsHtw s.ports)

/-! ### Which unit a phase belongs to (10_state.md rule R23, column "unit") -/

/-- A phase of the frame decoder. -/
def Phase.inFd : Phase → Bool
  | .fStart | .fAckRel | .fAckLow | .fAckHigh | .fRiseLow | .fRiseHigh | .fDelay | .fSample | .fFall => true
  | .idle | .vCheck | .vFdeb | .vFrel | .vBdeb | .vBrel => false
  | .tAddr | .tStart | .tWtx1 | .tWr | .tWstt | .tNstop | .tNwstp | .tWtx2 | .tStop | .tWstp => false

/-- A phase of the view state machine. -/
def Phase.inVs : Phase → Bool
  | .vCheck | .vFdeb | .vFrel | .vBdeb | .vBrel => true
  | .idle | .fStart | .fAckRel | .fAckLow | .fAckHigh | .fRiseLow | .fRiseHigh | .fDelay | .fSample | .fFall => false
  | .tAddr | .tStart | .tWtx1 | .tWr | .tWstt | .tNstop | .tNwstp | .tWtx2 | .tStop | .tWstp => false

/-- A phase of the bus transactor. -/
def Phase.inBt : Phase → Bool
  | .tAddr | .tStart | .tWtx1 | .tWr | .tWstt | .tNstop | .tNwstp | .tWtx2 | .tStop | .tWstp => true
  | .idle | .fStart | .fAckRel | .fAckLow | .fAckHigh | .fRiseLow | .fRiseHigh | .fDelay | .fSample | .fFall => false
  | .vCheck | .vFdeb | .vFrel | .vBdeb | .vBrel => false

/-- The phases before the first slot. -/
def Phase.inHandshake (p : Phase) : Bool :=
  decide (p = .fStart) || decide (p = .fAckRel) || decide (p = .fAckLow) || decide (p = .fAckHigh)

/-- The phases of a slot up to its sample. -/
def Phase.beforeSample (p : Phase) : Bool :=
  decide (p = .fRiseLow) || decide (p = .fRiseHigh) || decide (p = .fDelay) || decide (p = .fSample)

/-- How long the phase's delay is, for the delay phases (00_scope.md rule R12). -/
def Phase.delayLength (p : Params) : Phase → Option Nat
  | .fStart => some p.tStartCyc
  | .fDelay => some p.tSampleCyc
  | .vFdeb | .vBdeb => some p.tDebCyc
  | .idle | .fAckRel | .fAckLow | .fAckHigh | .fRiseLow | .fRiseHigh | .fSample | .fFall => none
  | .vCheck | .vFrel | .vBrel => none
  | .tAddr | .tStart | .tWtx1 | .tWr | .tWstt | .tNstop | .tNwstp | .tWtx2 | .tStop | .tWstp => none

/-! ### Waits (60_exceptions.md rule R214) -/

/-- The sequencer is in a wait phase whose condition does not hold in this cycle. -/
def State.held (s : State) : Bool :=
  match s.phase with
  | .fAckRel | .fAckHigh | .fRiseHigh => !s.dqSync.line
  | .fAckLow | .fRiseLow | .fFall => s.dqSync.line
  | .vFrel => !s.fwdSync.line
  | .vBrel => !s.bwdSync.line
  | .tWtx1 | .tWtx2 => !s.ports.bcTxrdy
  | .tWstt => s.ports.bcStt
  | .tNwstp | .tWstp => s.ports.bcStp
  | .idle | .fStart | .fDelay | .fSample | .vCheck | .vFdeb | .vBdeb => false
  | .tAddr | .tStart | .tWr | .tNstop | .tStop => false

/-! ### The invariant -/

/-- What holds of every state from the first reset edge on, for parameters that meet 00_scope.md rule R8: the claims of
10_state.md about the values its registers can hold. -/
structure State.Inv (s : State) : Prop where
  /-- the parameters' constraints -/
  delaysFit : s.params.DelaysFit
  /-- `cnt` fits its `CNT_W` bits (R26) -/
  cntFits : s.cnt < 2 ^ s.params.cntW
  /-- in a delay phase, `cnt` is below the delay's length (00_scope.md rule R12) -/
  cntBelow : ∀ n, s.phase.delayLength s.params = some n → s.cnt < n
  /-- `bitidx` never exceeds 40 (R27) -/
  bitidxBound : s.bitidx.toNat ≤ 40
  /-- no bit is sampled before the first slot -/
  handshakeEmpty : s.phase.inHandshake = true → s.bitidx = 0
  /-- a slot in progress has a number from 0 to 39 (R27) -/
  slotNumbered : s.phase.beforeSample = true → s.bitidx.toNat < 40
  /-- F_FALL comes after a sample -/
  fallSampled : s.phase = .fFall → 1 ≤ s.bitidx.toNat
  /-- the bits received sit right-aligned in SR (42_frame_decoder.md rule R159) -/
  srAligned : s.sr.toNat < 2 ^ s.bitidx.toNat
  /-- a ready frame is a complete one (R31) -/
  readyComplete : s.frameRdy = true → s.bitidx.toNat = 40
  /-- no frame is ready while an acquisition runs (R31) -/
  acqNotReady : s.phase.inFd = true → s.frameRdy = false
  /-- `op` tells which command runs (R25) -/
  opFd : s.phase.inFd = true → s.op = 1
  /-- `op` tells which command runs (R25) -/
  opVs : s.phase.inVs = true → s.op = 2
  /-- `op` tells which command runs (R25) -/
  opBt : s.phase.inBt = true → s.op = 3
  /-- NACK shows no earlier SEND's result while one runs (R36) -/
  sendNotNacked : s.phase.inBt = true → s.busNack = false
  /-- `op == 0` means no command has been accepted since reset (R25), so no command's results are there -/
  freshUntouched : s.op = 0 → s.bitidx = 0 ∧ s.view = 0 ∧ s.viewChg = false ∧ s.busNack = false ∧ s.nackCnt = 0 ∧
    s.btAddr = 0 ∧ s.btData = 0

/-! ### Contracts (premises of claims, never checked by the machine) -/

/-- The controller's obligations K2 to K5 of 41_bus_transactor.md rule R122 between this cycle and the next (log entry 13).
K1 and the outcome's meaning in K3 are about the controller's inside, and K6 obliges it to nothing. -/
structure State.ControllerKeeps (s : State) : Prop where
  /-- K2: `bc_stt` is 1 in the cycle after the start strobe -/
  startSeen : s.bcStartW = true → s.tick.ports.bcStt = true
  /-- K2: once the address phase has ended, `bc_stt` stays 0 until the next start strobe -/
  startOver : s.bcStartW = false → s.ports.bcStt = false → s.tick.ports.bcStt = false
  /-- K3: `bc_nack` is 0 in the cycle after the start strobe -/
  nackCleared : s.bcStartW = true → s.tick.ports.bcNack = false
  /-- K4: the transmit buffer is full in the cycle after a byte is written -/
  byteTaken : s.bcTxWe = true → s.tick.ports.bcTxrdy = false
  /-- K5: `bc_stp` is 1 in the cycle after the stop strobe -/
  stopSeen : s.bcStop = true → s.tick.ports.bcStp = true
  /-- K5: once the stop has completed, `bc_stp` stays 0 until the next stop strobe -/
  stopOver : s.bcStop = false → s.ports.bcStp = false → s.tick.ports.bcStp = false

/-- HD1 of 60_exceptions.md rule R222, in this cycle: CMD is written only while idle. -/
abbrev State.HostWaits (s : State) : Prop := s.busy = true → ¬ (s.ports.hWe = true ∧ s.ports.hAddr = 0)

/-- One bit of a frame on the sensor line: the widths, in sampling edges, of its low phase and of the high phase that encodes
it (42_frame_decoder.md rule R151, S2). -/
structure BitPulse where
  bit : Bool
  low : Nat
  high : Nat
deriving DecidableEq, Repr

/-- The levels of one bit. -/
def BitPulse.levels (b : BitPulse) : List Bool := List.replicate b.low false ++ List.replicate b.high true

/-- What a sensor drives after the start pulse (S1, S2): low until the pull-up has raised the line, high, the low-ack, the
high-ack, the bits, and the low phase that ends the frame. -/
structure SensorWave where
  pullUp : Nat
  idleHigh : Nat
  ackLow : Nat
  ackHigh : Nat
  bits : List BitPulse
  endLow : Nat
deriving DecidableEq, Repr

/-- The wave as levels, one for each sampling edge. -/
def SensorWave.levels (w : SensorWave) : List Bool :=
  List.replicate w.pullUp false ++ List.replicate w.idleHigh true ++ List.replicate w.ackLow false ++
    List.replicate w.ackHigh true ++ w.bits.flatMap BitPulse.levels ++ List.replicate w.endLow false

/-- S3 to S5 for the bits, each with the low phase that follows its high phase: `t` is `T_SAMPLE_CYC`. -/
def pulsesKeep (t endLow : Nat) : List BitPulse → Prop
  | [] => True
  | b :: rest =>
    3 ≤ b.low ∧ 3 ≤ b.high ∧ (b.bit = true → t + 2 ≤ b.high) ∧ (b.bit = false → b.high ≤ t + 1) ∧
    (b.bit = false → t + 4 ≤ b.high + (match rest with | [] => endLow | c :: _ => c.low)) ∧
    pulsesKeep t endLow rest

/-- The waveform contract S1 to S5 (42_frame_decoder.md rule R151) for a frame of 40 bits. -/
structure SensorWave.Keeps (t : Nat) (w : SensorWave) : Prop where
  idle : 1 ≤ w.idleHigh
  ackLow : 3 ≤ w.ackLow
  ackHigh : 3 ≤ w.ackHigh
  endLow : 3 ≤ w.endLow
  count : w.bits.length = Config.frameBits
  pulses : pulsesKeep t w.endLow w.bits

/-! ### What a run has done -/

/-- The bits F_SAMPLE has recorded in the first `n` cycles of the run, in sampling order (42_frame_decoder.md rule R159). -/
def State.samples (s : State) : Nat → List Bool
  | 0 => []
  | n + 1 =>
    s.samples n ++ (if (s.after n).phase = .fSample then [(s.after n).dqSync.line] else [])

/-- The level `line(dq)` shows `k` cycles on, while no reset comes: first what the synchroniser's two stages hold already, then
the levels of `dq_in`, each two cycles after its own (10_state.md rule R30). -/
def State.dqAhead (s : State) : Nat → Bool
  | 0 => s.dqSync.stage1
  | 1 => s.dqSync.stage0
  | k + 2 => (s.after k).ports.dqIn

/-- In how many of the first `n` cycles of the run the block pulls the sensor line low. -/
def State.lows (s : State) : Nat → Nat
  | 0 => 0
  | n + 1 => s.lows n + (if (s.after n).dqDriveLow then 1 else 0)

/-- How many stop strobes the block has given in the first `n` cycles of the run. -/
def State.stops (s : State) : Nat → Nat
  | 0 => 0
  | n + 1 => s.stops n + (if (s.after n).bcStop then 1 else 0)

/-- The bits read as a number, the first one the most significant. -/
def bitsValue (bits : List Bool) : Nat := bits.foldl (fun v b => 2 * v + b.toNat) 0

end Sys2Proof.Machine
end

