-- ==== Sys2Proof/Certificates/Slice0/Obligations.lean ====
section
/-! DEFINITION. Sys2Proof/Certificates/Slice0/Obligations.lean: the statements for the provers.

`clockEdge id s` is the edge with no host write: the running command's step alone (in IDLE, nothing but the synchronisers).  A
statement about an instruction gives the whole next state, so what it does not name is unchanged from that edge.  `rdata` in a
next state is the model's record (log entry 6) of the byte `h_rdata` carried, whose value 40_host_interface.md rule R101 gives;
`params` is where the model holds the build's parameters (log entry 3). -/

open Sys2Proof Sys2Proof.Machine

/-! ### Encoding -/

/-- Words written out from 30_encoding.md rules R80 and R83, at least one of every family. -/
def Obligations.DecodesWordsOfEveryFamily : Prop :=
  decode 0x0000#13 = .rdCmd 0x00#8 ∧ decode 0x09FF#13 = .rdFtenHi 0xFF#8 ∧ decode 0x0D00#13 = .rdPhase 0x00#8 ∧
  decode 0x1000#13 = .nop ∧ decode 0x1001#13 = .acq ∧ decode 0x1002#13 = .poll ∧ decode 0x1003#13 = .send ∧
  decode 0x1005#13 = .wrCmdRsvd04 0x05#8 ∧ decode 0x100F#13 = .wrCmdRsvd08 0x0F#8 ∧
  decode 0x1010#13 = .wrCmdRsvd10 0x10#8 ∧ decode 0x103F#13 = .wrCmdRsvd20 0x3F#8 ∧
  decode 0x1040#13 = .wrCmdRsvd40 0x40#8 ∧ decode 0x10FF#13 = .wrCmdRsvd80 0xFF#8 ∧
  decode 0x1120#13 = .wrStatus 0x20#8 ∧ decode 0x1203#13 = .wrView 0x03#8 ∧ decode 0x1AA7#13 = .wrBusAddr 0xA7#8 ∧
  decode 0x1B28#13 = .wrBusData 0x28#8 ∧ decode 0x1C05#13 = .wrNackCnt 0x05#8 ∧ decode 0x1FFF#13 = .wrRsvdF 0xFF#8

/-- Decoding an encoded well-formed instruction gives it back, as a word and as an opcode-table word of 16 bits (the two-byte
layout is the model's, log entry 8). -/
def Obligations.DecodeOfEncodeIsTheInstruction : Prop :=
  ∀ i : Instr, i.wellFormed = true → decode (encode i) = i ∧ decodeTableWord 16 (encode i).toNat = some i

/-- Every word decodes to a well-formed instruction, whose encoding is the word (R81). -/
def Obligations.EncodeOfDecodeIsTheWord : Prop :=
  ∀ h : Htw, (decode h).wellFormed = true ∧ encode (decode h) = h

/-- The opcode map is exact: every word matches one row and no other, the row of the instruction it decodes to (R83). -/
def Obligations.EveryWordMatchesExactlyOneRow : Prop :=
  opcodeTable.length = 41 ∧
  ∀ h : Htw, (opcodeTable.filter (fun r => r.matches h)).map (fun r => r.mnemonic) = [(decode h).mnemonic]

/-! ### The step -/

/-- With `rst` low, a step carries out the instruction at the register port, and then the next cycle's inputs stand at the ports:
the first of those to come, or, where none are left, a free draw; after a reset edge the next inputs come the same way
(00_scope.md rules R6 and R7; log entries 1 and 2). -/
def Obligations.StepCarriesOutThePresentedInstruction : Prop :=
  (∀ s : State, s.ports.rst = false →
    step s = match exec (decode (htwOf s.ports.hWe s.ports.hAddr s.ports.hWdata)) s with
      | .next t => .next t.nextCycle
      | .fault r => .fault r
      | .refused r => .refused r) ∧
  (∀ (t : State) (p : Ports) (rest : List Ports), t.coming = p :: rest →
    t.nextCycle = { t with ports := p, coming := rest, edges := t.edges + 1 }) ∧
  (∀ t : State, t.coming = [] →
    t.nextCycle = { t with ports := Config.drawPorts (t.edges + 1), edges := t.edges + 1 }) ∧
  (∀ s : State, ∃ t, step s = .next t ∧ t.edges = s.edges + 1 ∧
    (∀ (p : Ports) (rest : List Ports), s.coming = p :: rest → t.ports = p ∧ t.coming = rest) ∧
    (s.coming = [] → t.ports = Config.drawPorts (s.edges + 1) ∧ t.coming = []))

/-- The step is total, and so is every instruction's meaning: nothing faults and nothing is refused (00_scope.md rule R7,
60_exceptions.md rule R213). -/
def Obligations.EveryStepAnswersANextState : Prop :=
  ∀ s : State, (∃ t, step s = .next t) ∧ ∀ i : Instr, ∃ t, exec i s = .next t

/-! ### Reset -/

/-- An edge with `rst == 1` loads every register with its reset value, whatever state it finds and whatever the other inputs
are (70_reset_and_hazards.md rule R230); the build's parameters stay. -/
def Obligations.ResetEdgeLoadsEveryRegister : Prop :=
  ∀ s : State, s.ports.rst = true → ∃ t, step s = .next t ∧
    t.phase = .idle ∧ t.op = 0 ∧ t.cnt = 0 ∧ t.bitidx = 0 ∧ t.sr = 0 ∧ t.frameRdy = false ∧ t.view = 0 ∧
    t.viewChg = false ∧ t.ill = false ∧ t.ovr = false ∧ t.busNack = false ∧ t.nackCnt = 0 ∧ t.busAddr = 0 ∧
    t.busData = 0 ∧ t.btAddr = 0 ∧ t.btData = 0 ∧ t.dqSync = ⟨true, true⟩ ∧ t.fwdSync = ⟨true, true⟩ ∧
    t.bwdSync = ⟨true, true⟩ ∧ t.params = s.params

/-- After a reset edge the register map reads as the "reset read" column of 10_state.md rule R44, BUSY is 0, no output drives
anything, and the first cycle with `rst` low accepts a command (R232). -/
def Obligations.AfterResetTheMapReadsItsResetColumn : Prop :=
  ∀ s : State, s.ports.rst = true → ∃ t, step s = .next t ∧
    (readVal .cmd t = 0x00#8 ∧ readVal .status t = 0x00#8 ∧ readVal .view t = 0x00#8 ∧ readVal .b0 t = 0x00#8 ∧
     readVal .b1 t = 0x00#8 ∧ readVal .b2 t = 0x00#8 ∧ readVal .b3 t = 0x00#8 ∧ readVal .b4 t = 0x00#8 ∧
     readVal .ftenLo t = 0x40#8 ∧ readVal .ftenHi t = 0x01#8 ∧ readVal .busAddr t = 0x00#8 ∧
     readVal .busData t = 0x00#8 ∧ readVal .nackCnt t = 0x00#8 ∧ readVal .phase t = 0x00#8 ∧
     readVal .bitidx t = 0x00#8 ∧ readVal .rsvdF t = 0x00#8) ∧
    (t.dqDriveLow = false ∧ t.bcSaWe = false ∧ t.bcStartW = false ∧ t.bcTxWe = false ∧ t.bcStop = false ∧
     t.bcSa = 0 ∧ t.bcTxData = 0) ∧
    (t.ports.rst = false → t.presented = .acq → ∃ u, step t = .next u ∧ u.phase = .fStart)

/-- The outputs are functions of the registers, and take their reset drive while `rst == 1`; the sensor line is pulled low in
F_START and in no other phase (10_state.md rule R45, 42_frame_decoder.md rule R161). -/
def Obligations.OutputsFollowThePhaseAndReset : Prop :=
  ∀ s : State,
    (s.ports.rst = false →
      (s.dqDriveLow = true ↔ s.phase = .fStart) ∧ s.bcSa = s.btAddr ∧ (s.bcSaWe = true ↔ s.phase = .tAddr) ∧
      (s.bcStartW = true ↔ s.phase = .tStart) ∧ s.bcTxData = s.btData ∧ (s.bcTxWe = true ↔ s.phase = .tWr) ∧
      (s.bcStop = true ↔ s.phase = .tNstop ∨ s.phase = .tStop)) ∧
    (s.ports.rst = true →
      s.dqDriveLow = false ∧ s.bcSa = 0 ∧ s.bcSaWe = false ∧ s.bcStartW = false ∧ s.bcTxData = 0 ∧ s.bcTxWe = false ∧
      s.bcStop = false)

/-! ### Reads -/

/-- `RD` of CMD, STATUS, VIEW, PHASE, BITIDX and 0xF: the byte, and no effect of its own (40_host_interface.md rule R101, values
of 10_state.md rule R44). -/
def Obligations.ReadsOfControlRegisters : Prop :=
  ∀ (s : State) (xx : Byte),
    exec (.rdCmd xx) s = .next { clockEdge id s with rdata := 0#6 ++ s.op } ∧
    exec (.rdStatus xx) s = .next { clockEdge id s with rdata := s.status } ∧
    exec (.rdView xx) s = .next { clockEdge id s with rdata := 0#6 ++ s.view } ∧
    exec (.rdPhase xx) s = .next { clockEdge id s with rdata := s.phase.code } ∧
    exec (.rdBitidx xx) s = .next { clockEdge id s with rdata := 0#2 ++ s.bitidx } ∧
    exec (.rdRsvdF xx) s = .next { clockEdge id s with rdata := 0x00#8 }

/-- `RD` of the frame's bytes and of the Fahrenheit value (R101; 10_state.md rules R29 and R37, 20_memory.md rule R62). -/
def Obligations.ReadsOfFrameRegisters : Prop :=
  ∀ (s : State) (xx : Byte),
    exec (.rdB0 xx) s = .next { clockEdge id s with rdata := BitVec.ofNat 8 (s.sr.toNat / 2 ^ 32) } ∧
    exec (.rdB1 xx) s = .next { clockEdge id s with rdata := BitVec.ofNat 8 (s.sr.toNat / 2 ^ 24) } ∧
    exec (.rdB2 xx) s = .next { clockEdge id s with rdata := BitVec.ofNat 8 (s.sr.toNat / 2 ^ 16) } ∧
    exec (.rdB3 xx) s = .next { clockEdge id s with rdata := BitVec.ofNat 8 (s.sr.toNat / 2 ^ 8) } ∧
    exec (.rdB4 xx) s = .next { clockEdge id s with rdata := BitVec.ofNat 8 s.sr.toNat } ∧
    exec (.rdFtenLo xx) s = .next { clockEdge id s with rdata := BitVec.ofNat 8 (s.b2.toNat * 18 + 320) } ∧
    exec (.rdFtenHi xx) s = .next { clockEdge id s with rdata := BitVec.ofNat 8 ((s.b2.toNat * 18 + 320) / 256) }

/-- `RD` of BUS_ADDR, BUS_DATA and NACK_CNT (R101; 10_state.md rules R38 to R40). -/
def Obligations.ReadsOfBusRegisters : Prop :=
  ∀ (s : State) (xx : Byte),
    exec (.rdBusAddr xx) s = .next { clockEdge id s with rdata := 0#1 ++ s.busAddr } ∧
    exec (.rdBusData xx) s = .next { clockEdge id s with rdata := s.busData } ∧
    exec (.rdNackCnt xx) s = .next { clockEdge id s with rdata := s.nackCnt }

/-- No read has a side effect, on any address, busy or idle: two reads differ in the byte they return and in nothing else, and in
IDLE a read leaves every register as it was, but for the synchronisers, which no instruction stops (20_memory.md rule R66,
60_exceptions.md rule R225). -/
def Obligations.ReadsHaveNoSideEffect : Prop :=
  ∀ (i j : Instr) (s : State), i.we = false → j.we = false → ∃ t u, exec i s = .next t ∧ exec j s = .next u ∧
    { t with rdata := 0 } = { u with rdata := 0 } ∧
    (s.phase = .idle → { t with rdata := s.rdata, dqSync := s.dqSync, fwdSync := s.fwdSync, bwdSync := s.bwdSync } = s ∧
      t.dqSync = ⟨s.ports.dqIn, s.dqSync.stage0⟩ ∧ t.fwdSync = ⟨s.ports.fwdN, s.fwdSync.stage0⟩ ∧
      t.bwdSync = ⟨s.ports.bwdN, s.bwdSync.stage0⟩)

/-- In every cycle, also one that writes, the host takes the byte `h_rdata` carries: the addressed register's value before the
edge (R101). -/
def Obligations.HostTakesTheByteBeforeTheEdge : Prop :=
  ∀ s : State, ∃ t, step s = .next t ∧ t.rdata = s.hRdata ∧
    (s.ports.rst = false → t.rdata = readVal (Reg.ofAddr s.ports.hAddr) s)

/-! ### Commands -/

/-- `NOP` (40_host_interface.md rule R104). -/
def Obligations.NopChangesNothingWhenIdle : Prop :=
  encode .nop = 0x1000#13 ∧
  ∀ s : State,
    (s.phase = .idle → exec .nop s = .next { s.sampleInputs with rdata := 0#6 ++ s.op }) ∧
    (s.phase ≠ .idle → exec .nop s = .next { clockEdge id s with ovr := true, rdata := 0#6 ++ s.op })

/-- Any write to CMD while BUSY is an overrun and is otherwise discarded: the running command takes the step it takes without
the write (R105). -/
def Obligations.CommandWriteWhileBusyIsAnOverrun : Prop :=
  ∀ (i : Instr) (s : State), i.we = true → i.reg = .cmd → s.phase ≠ .idle →
    exec i s = .next { clockEdge id s with ovr := true, rdata := 0#6 ++ s.op }

/-- A reserved opcode, 0x04 to 0xFF, written while idle sets ILL and changes nothing else; while busy it is an overrun and ILL
is not set (R106, 60_exceptions.md rule R217 (b)). -/
def Obligations.ReservedOpcodeSetsIllWhenIdle : Prop :=
  (∀ (cmd : Byte) (s : State), s.phase = .idle →
    exec (.wrCmdRsvd04 cmd) s = .next { s.sampleInputs with ill := true, rdata := 0#6 ++ s.op } ∧
    exec (.wrCmdRsvd08 cmd) s = .next { s.sampleInputs with ill := true, rdata := 0#6 ++ s.op } ∧
    exec (.wrCmdRsvd10 cmd) s = .next { s.sampleInputs with ill := true, rdata := 0#6 ++ s.op } ∧
    exec (.wrCmdRsvd20 cmd) s = .next { s.sampleInputs with ill := true, rdata := 0#6 ++ s.op } ∧
    exec (.wrCmdRsvd40 cmd) s = .next { s.sampleInputs with ill := true, rdata := 0#6 ++ s.op } ∧
    exec (.wrCmdRsvd80 cmd) s = .next { s.sampleInputs with ill := true, rdata := 0#6 ++ s.op }) ∧
  (∀ (cmd : Byte) (s : State), 0x04 ≤ cmd.toNat →
    (s.phase = .idle →
      exec (decode (htwOf true 0x0#4 cmd)) s = .next { s.sampleInputs with ill := true, rdata := 0#6 ++ s.op }) ∧
    (s.phase ≠ .idle →
      exec (decode (htwOf true 0x0#4 cmd)) s = .next { clockEdge id s with ovr := true, rdata := 0#6 ++ s.op }))

/-- ACCEPT_ACQ (42_frame_decoder.md rule R152), with `op <- 1` (40_host_interface.md rule R103), into F_START, whose code is 0x10
(R153).  The counter's load is claimed under 00_scope.md rule R8's constraints; nothing else depends on them. -/
def Obligations.AcqAcceptanceStartsTheStartPulse : Prop :=
  (encode .acq = 0x1001#13 ∧ Phase.fStart.code = 0x10#8) ∧
  ∀ s : State, s.phase = .idle → ∃ c : Nat,
    exec .acq s = .next { s.sampleInputs with
      op := 1, sr := 0, bitidx := 0, frameRdy := false, cnt := c, phase := .fStart, rdata := 0#6 ++ s.op } ∧
    (s.params.DelaysFit → c = s.params.tStartCyc - 1)

/-- ACCEPT_POLL (44_view_fsm.md rule R192), with `op <- 2` (R103). -/
def Obligations.PollAcceptanceGoesToTheCheck : Prop :=
  encode .poll = 0x1002#13 ∧
  ∀ s : State, s.phase = .idle →
    exec .poll s = .next { s.sampleInputs with op := 2, phase := .vCheck, rdata := 0#6 ++ s.op }

/-- ACCEPT_SEND (41_bus_transactor.md rule R121), with `op <- 3` (R103). -/
def Obligations.SendAcceptanceLatchesTheOperands : Prop :=
  encode .send = 0x1003#13 ∧
  ∀ s : State, s.phase = .idle →
    exec .send s = .next { s.sampleInputs with
      op := 3, btAddr := s.busAddr, btData := s.busData, busNack := false, phase := .tAddr, rdata := 0#6 ++ s.op }

/-! ### Other writes -/

/-- `WR STATUS, m` (40_host_interface.md rule R107): bits 4, 5 and 6 clear; a view change at the same edge wins
(60_exceptions.md rule R217 (c)). -/
def Obligations.StatusWriteClearsTheStickyBits : Prop :=
  ∀ (m : Byte) (s : State),
    encode (.wrStatus m) = htwOf true 0x1#4 m ∧
    exec (.wrStatus m) s = .next { clockEdge id s with
      viewChg := decide ((s.phase = .vFdeb ∨ s.phase = .vBdeb) ∧ s.cnt = 0) || (s.viewChg && !m.getLsbD 4)
      ill := s.ill && !m.getLsbD 5
      ovr := s.ovr && !m.getLsbD 6
      rdata := s.status }

/-- `WR BUS_ADDR, v` drops bit 7, `WR BUS_DATA, v` stores the byte; both in any cycle (R108, R109). -/
def Obligations.BusOperandWritesStore : Prop :=
  ∀ (v : Byte) (s : State),
    (encode (.wrBusAddr v) = htwOf true 0xA#4 v ∧
      exec (.wrBusAddr v) s =
        .next { clockEdge id s with busAddr := BitVec.ofNat 7 (v.toNat % 128), rdata := 0#1 ++ s.busAddr }) ∧
    (encode (.wrBusData v) = htwOf true 0xB#4 v ∧
      exec (.wrBusData v) s = .next { clockEdge id s with busData := v, rdata := s.busData })

/-- `WR NACK_CNT, v` clears the counter whatever `v`, and a `Nack` completion at the same edge leaves 1 (R110,
60_exceptions.md rule R217 (d)). -/
def Obligations.NackCountWriteClears : Prop :=
  ∀ (v : Byte) (s : State),
    encode (.wrNackCnt v) = htwOf true 0xC#4 v ∧
    exec (.wrNackCnt v) s = .next { clockEdge id s with
      nackCnt := if s.phase = .tNwstp ∧ s.ports.bcStp = false then 1 else 0, rdata := s.nackCnt }

/-- A write to a read-only register or to 0xF, whatever the byte, changes no state and sets no flag: each instruction, and every
word `{1, a, v}` with `a` in 0x2..0x9 and 0xD..0xF (R111). -/
def Obligations.WritesToReadOnlyRegistersAreIgnored : Prop :=
  (∀ (v : Byte) (s : State),
    exec (.wrView v) s = .next { clockEdge id s with rdata := readVal .view s } ∧
    exec (.wrB0 v) s = .next { clockEdge id s with rdata := readVal .b0 s } ∧
    exec (.wrB1 v) s = .next { clockEdge id s with rdata := readVal .b1 s } ∧
    exec (.wrB2 v) s = .next { clockEdge id s with rdata := readVal .b2 s } ∧
    exec (.wrB3 v) s = .next { clockEdge id s with rdata := readVal .b3 s } ∧
    exec (.wrB4 v) s = .next { clockEdge id s with rdata := readVal .b4 s } ∧
    exec (.wrFtenLo v) s = .next { clockEdge id s with rdata := readVal .ftenLo s } ∧
    exec (.wrFtenHi v) s = .next { clockEdge id s with rdata := readVal .ftenHi s } ∧
    exec (.wrPhase v) s = .next { clockEdge id s with rdata := readVal .phase s } ∧
    exec (.wrBitidx v) s = .next { clockEdge id s with rdata := readVal .bitidx s } ∧
    exec (.wrRsvdF v) s = .next { clockEdge id s with rdata := readVal .rsvdF s }) ∧
  (∀ (a : RegAddr) (v : Byte) (s : State), (2 ≤ a.toNat ∧ a.toNat ≤ 9) ∨ 13 ≤ a.toNat →
    exec (decode (htwOf true a v)) s = .next { clockEdge id s with rdata := readVal (Reg.ofAddr a) s })

/-! ### Frame decoder -/

/-- The acknowledge wait's three phases, whatever the host does meanwhile (42_frame_decoder.md rules R154 and R155). -/
def Obligations.AcknowledgePhasesFollowTheLine : Prop :=
  (Phase.fAckRel.code = 0x11#8 ∧ Phase.fAckLow.code = 0x12#8 ∧ Phase.fAckHigh.code = 0x13#8) ∧
  ∀ (i : Instr) (s : State), ∃ t, exec i s = .next t ∧
    (s.phase = .fAckRel → t.phase = if s.dqSync.stage1 = true then .fAckLow else .fAckRel) ∧
    (s.phase = .fAckLow → t.phase = if s.dqSync.stage1 = false then .fAckHigh else .fAckLow) ∧
    (s.phase = .fAckHigh → t.phase = if s.dqSync.stage1 = true then .fRiseLow else .fAckHigh) ∧
    (s.phase = .fAckRel ∨ s.phase = .fAckLow ∨ s.phase = .fAckHigh →
      t.sr = s.sr ∧ t.bitidx = s.bitidx ∧ t.frameRdy = s.frameRdy ∧ t.op = s.op)

/-- A slot's phases, whatever the host does meanwhile (R156): the wait for a low and then a high level, and the delay, whose
counter's load is claimed under 00_scope.md rule R8's constraints. -/
def Obligations.RisePhasesFollowTheLine : Prop :=
  (Phase.fRiseLow.code = 0x14#8 ∧ Phase.fRiseHigh.code = 0x15#8 ∧ Phase.fDelay.code = 0x16#8) ∧
  ∀ (i : Instr) (s : State), ∃ t, exec i s = .next t ∧
    (s.phase = .fRiseLow → t.phase = if s.dqSync.stage1 = false then .fRiseHigh else .fRiseLow) ∧
    (s.phase = .fRiseHigh →
      (s.dqSync.stage1 = true → t.phase = .fDelay ∧ (s.params.DelaysFit → t.cnt = s.params.tSampleCyc - 1)) ∧
      (s.dqSync.stage1 = false → t.phase = .fRiseHigh)) ∧
    (s.phase = .fDelay →
      (s.cnt = 0 → t.phase = .fSample) ∧ (s.cnt ≠ 0 → t.phase = .fDelay ∧ t.cnt = s.cnt - 1)) ∧
    (s.phase = .fRiseLow ∨ s.phase = .fRiseHigh ∨ s.phase = .fDelay →
      t.sr = s.sr ∧ t.bitidx = s.bitidx ∧ t.frameRdy = s.frameRdy ∧ t.op = s.op)

/-- F_SAMPLE shifts the line's level into SR and counts it, whatever the host does meanwhile (R157).  (The count is 6 bits wide;
it stays below 40 before a sample in every state with `State.Inv`.) -/
def Obligations.SamplePhaseShiftsTheLineIn : Prop :=
  Phase.fSample.code = 0x17#8 ∧
  ∀ (i : Instr) (s : State), s.phase = .fSample → ∃ t, exec i s = .next t ∧
    t.sr = BitVec.ofNat 40 (2 * s.sr.toNat + s.dqSync.stage1.toNat) ∧
    t.bitidx.toNat = (s.bitidx.toNat + 1) % 64 ∧ t.phase = .fFall ∧ t.frameRdy = s.frameRdy ∧ t.op = s.op

/-- F_FALL waits for the low level; then the frame is done if 40 bits are in, and the next slot begins otherwise, whatever the
host does meanwhile (R158). -/
def Obligations.FallPhaseEndsTheSlotOrTheFrame : Prop :=
  Phase.fFall.code = 0x18#8 ∧
  ∀ (i : Instr) (s : State), s.phase = .fFall → ∃ t, exec i s = .next t ∧
    (s.dqSync.stage1 = true → t.phase = .fFall ∧ t.frameRdy = s.frameRdy) ∧
    (s.dqSync.stage1 = false → s.bitidx.toNat = 40 →
      t.phase = .idle ∧ t.frameRdy = true ∧ t.status.getLsbD 0 = false ∧ t.status.getLsbD 1 = true ∧
      t.status.getLsbD 2 = s.chkOk) ∧
    (s.dqSync.stage1 = false → s.bitidx.toNat ≠ 40 → t.phase = .fRiseLow ∧ t.frameRdy = s.frameRdy) ∧
    t.sr = s.sr ∧ t.bitidx = s.bitidx ∧ t.op = s.op

/-- SR is the five frame bytes, B0 the most significant (10_state.md rule R29, 20_memory.md rule R61). -/
def Obligations.FrameIsItsFiveBytes : Prop :=
  ∀ s : State, s.sr.toNat =
    s.b0.toNat * 2 ^ 32 + s.b1.toNat * 2 ^ 24 + s.b2.toNat * 2 ^ 16 + s.b3.toNat * 2 ^ 8 + s.b4.toNat

/-! ### Checksum, Fahrenheit, STATUS -/

/-- The checksum law over all frames (43_checksum.md rules R180 and R181): VALID, STATUS bit 2, is `frame_rdy` and
`B4 == (B0 + B1 + B2 + B3) mod 256`, and depends on nothing else. -/
def Obligations.ValidIsTheChecksumLaw : Prop :=
  ∀ s : State,
    (s.chkOk = true ↔ s.b4.toNat = (s.b0.toNat + s.b1.toNat + s.b2.toNat + s.b3.toNat) % 256) ∧
    (s.status.getLsbD 2 = true ↔
      s.frameRdy = true ∧ s.b4.toNat = (s.b0.toNat + s.b1.toNat + s.b2.toNat + s.b3.toNat) % 256)

/-- FTENTHS is `B2*18 + 320`, between 320 and 4910; it never wraps, and its bytes read at FTEN_LO and FTEN_HI (10_state.md rule
R37). -/
def Obligations.FahrenheitIsExact : Prop :=
  ∀ s : State,
    s.ftenths.toNat = s.b2.toNat * 18 + 320 ∧ 320 ≤ s.ftenths.toNat ∧ s.ftenths.toNat ≤ 4910 ∧
    s.ftenths.toNat = (readVal .ftenHi s).toNat * 256 + (readVal .ftenLo s).toNat ∧ (s.sr = 0 → s.ftenths = 0x0140#16)

/-- STATUS bit by bit (10_state.md rule R42). -/
def Obligations.StatusIsItsBits : Prop :=
  ∀ s : State,
    (s.status.getLsbD 0 = true ↔ s.phase ≠ .idle) ∧ s.status.getLsbD 1 = s.frameRdy ∧ s.status.getLsbD 2 = s.valid ∧
    s.status.getLsbD 3 = s.busNack ∧ s.status.getLsbD 4 = s.viewChg ∧ s.status.getLsbD 5 = s.ill ∧
    s.status.getLsbD 6 = s.ovr ∧ s.status.getLsbD 7 = false

/-! ### View state machine -/

/-- V_CHECK reads both buttons in its one cycle, forward first, whatever the host does meanwhile (44_view_fsm.md rule R193); the
counter's load is claimed under 00_scope.md rule R8's constraints. -/
def Obligations.CheckPhaseTakesForwardFirst : Prop :=
  Phase.vCheck.code = 0x20#8 ∧
  ∀ (i : Instr) (s : State), s.phase = .vCheck → ∃ t, exec i s = .next t ∧
    (s.fwdSync.stage1 = false → t.phase = .vFdeb ∧ (s.params.DelaysFit → t.cnt = s.params.tDebCyc - 1)) ∧
    (s.fwdSync.stage1 = true → s.bwdSync.stage1 = false →
      t.phase = .vBdeb ∧ (s.params.DelaysFit → t.cnt = s.params.tDebCyc - 1)) ∧
    (s.fwdSync.stage1 = true → s.bwdSync.stage1 = true → t.phase = .idle) ∧ t.view = s.view ∧ t.op = s.op

/-- The debounce phases: the delay, then the view's step and `view_chg`, which the host cannot clear at that edge (R194, R196,
60_exceptions.md rule R217 (c)); the button is not read. -/
def Obligations.DebouncePhasesMoveTheView : Prop :=
  (Phase.vFdeb.code = 0x21#8 ∧ Phase.vBdeb.code = 0x23#8) ∧
  ∀ (i : Instr) (s : State), ∃ t, exec i s = .next t ∧
    (s.phase = .vFdeb → s.cnt = 0 →
      t.view.toNat = (s.view.toNat + 1) % 4 ∧ t.viewChg = true ∧ t.phase = .vFrel) ∧
    (s.phase = .vBdeb → s.cnt = 0 →
      t.view = (if s.view = 0 then 3 else s.view - 1) ∧ t.viewChg = true ∧ t.phase = .vBrel) ∧
    (s.phase = .vFdeb ∨ s.phase = .vBdeb → s.cnt ≠ 0 →
      t.phase = s.phase ∧ t.cnt = s.cnt - 1 ∧ t.view = s.view)

/-- The release waits (R195, R197), whatever the host does meanwhile. -/
def Obligations.ReleasePhasesWaitForTheButton : Prop :=
  (Phase.vFrel.code = 0x22#8 ∧ Phase.vBrel.code = 0x24#8) ∧
  ∀ (i : Instr) (s : State), ∃ t, exec i s = .next t ∧
    (s.phase = .vFrel → t.phase = if s.fwdSync.stage1 = true then .idle else .vFrel) ∧
    (s.phase = .vBrel → t.phase = if s.bwdSync.stage1 = true then .idle else .vBrel) ∧
    (s.phase = .vFrel ∨ s.phase = .vBrel → t.view = s.view)

/-- Index arithmetic (R198): forward and backward modulo 4, inverse to each other, and `k` forward steps from `v` give
`(v + k) mod 4`. -/
def Obligations.ViewArithmeticIsCyclic : Prop :=
  ∀ v : BitVec 2,
    (viewForward v).toNat = (v.toNat + 1) % 4 ∧ (viewBackward v).toNat = (v.toNat + 3) % 4 ∧
    viewBackward (viewForward v) = v ∧ viewForward (viewBackward v) = v ∧
    ∀ k : Nat, (viewForward^[k] v).toNat = (v.toNat + k) % 4

/-! ### Bus transactor -/

/-- The one-cycle phases of SEND, with their strobes, whatever the host does meanwhile (41_bus_transactor.md rules R124, R125,
R127, R129 and R132). -/
def Obligations.StrobePhasesLastOneCycle : Prop :=
  (Phase.tAddr.code = 0x30#8 ∧ Phase.tStart.code = 0x31#8 ∧ Phase.tWr.code = 0x33#8 ∧ Phase.tNstop.code = 0x35#8 ∧
    Phase.tStop.code = 0x38#8) ∧
  ∀ (i : Instr) (s : State), s.ports.rst = false → ∃ t, exec i s = .next t ∧
    (s.phase = .tAddr → s.bcSaWe = true ∧ s.bcSa = s.btAddr ∧ t.phase = .tStart) ∧
    (s.phase = .tStart → s.bcStartW = true ∧ t.phase = .tWtx1) ∧
    (s.phase = .tWr → s.bcTxWe = true ∧ s.bcTxData = s.btData ∧ t.phase = .tWstt) ∧
    (s.phase = .tNstop → s.bcStop = true ∧ t.phase = .tNwstp) ∧
    (s.phase = .tStop → s.bcStop = true ∧ t.phase = .tWstp)

/-- The waits of SEND on the controller's flags, and the one test of the not-acknowledge, whatever the host does meanwhile
(R126, R128, R131); the not-acknowledge's level in any other cycle of the SEND has no effect (R128). -/
def Obligations.BusWaitsFollowTheFlags : Prop :=
  (Phase.tWtx1.code = 0x32#8 ∧ Phase.tWstt.code = 0x34#8 ∧ Phase.tWtx2.code = 0x37#8) ∧
  ∀ (i : Instr) (s : State), ∃ t, exec i s = .next t ∧
    (s.phase = .tWtx1 → t.phase = if s.ports.bcTxrdy = true then .tWr else .tWtx1) ∧
    (s.phase = .tWtx2 → t.phase = if s.ports.bcTxrdy = true then .tStop else .tWtx2) ∧
    (s.phase = .tWstt → t.phase =
      if s.ports.bcStt = true then .tWstt else if s.ports.bcNack = true then .tNstop else .tWtx2) ∧
    (s.phase.inBt = true → ¬ (s.phase = .tWstt ∧ s.ports.bcStt = false) → ∀ level : Bool,
      exec i { s with ports := { s.ports with bcNack := level } } =
        .next { t with ports := { t.ports with bcNack := level } })

/-- The ends of SEND (R130, R133, R134, R135): the result, and the count of `Nack`s, saturating at 255, which no other edge of
SEND writes.  What a host's write to NACK_CNT does at the same edge is `NackCountWriteClears`. -/
def Obligations.SendCompletionRecordsTheResult : Prop :=
  (Phase.tNwstp.code = 0x36#8 ∧ Phase.tWstp.code = 0x39#8) ∧
  ∀ (i : Instr) (s : State), ∃ t, exec i s = .next t ∧
    (s.phase = .tNwstp → s.ports.bcStp = false →
      t.busNack = true ∧ t.phase = .idle ∧ t.status.getLsbD 0 = false ∧ t.status.getLsbD 3 = true ∧
      ((∀ v, i ≠ .wrNackCnt v) → t.nackCnt.toNat = min 255 (s.nackCnt.toNat + 1))) ∧
    (s.phase = .tNwstp → s.ports.bcStp = true → t.phase = .tNwstp) ∧
    (s.phase = .tWstp → s.ports.bcStp = false →
      t.busNack = false ∧ t.phase = .idle ∧ t.status.getLsbD 0 = false ∧ t.status.getLsbD 3 = false) ∧
    (s.phase = .tWstp → s.ports.bcStp = true → t.phase = .tWstp) ∧
    (s.phase.inBt = true → ¬ (s.phase = .tNwstp ∧ s.ports.bcStp = false) → (∀ v, i ≠ .wrNackCnt v) →
      t.nackCnt = s.nackCnt)

/-! ### Whole-machine rules -/

/-- Only the two debounce phases' exits move the view, one step; no host write, no other command, no condition
(10_state.md rule R32, 44_view_fsm.md rule R199). -/
def Obligations.OnlyPollMovesTheView : Prop :=
  ∀ s : State, ∃ t, step s = .next t ∧
    (t.view = s.view ∨ (s.ports.rst = true ∧ t.view = 0) ∨
      (s.ports.rst = false ∧ s.phase = .vFdeb ∧ s.cnt = 0 ∧ t.view = s.view + 1) ∨
      (s.ports.rst = false ∧ s.phase = .vBdeb ∧ s.cnt = 0 ∧ t.view = s.view - 1))

/-- Only ACQ moves the frame: its acceptance clears it, its samples fill it, its end makes it ready, and a reset clears it
(10_state.md rules R27, R28 and R31). -/
def Obligations.OnlyAcqMovesTheFrame : Prop :=
  ∀ s : State, ∃ t, step s = .next t ∧
    ((t.sr = s.sr ∧ t.bitidx = s.bitidx) ∨ s.ports.rst = true ∨ (s.phase = .idle ∧ s.presented = .acq) ∨
      s.phase = .fSample) ∧
    (t.frameRdy = s.frameRdy ∨ s.ports.rst = true ∨ (s.phase = .idle ∧ s.presented = .acq) ∨
      (s.phase = .fFall ∧ s.bitidx.toNat = 40 ∧ s.dqSync.stage1 = false))

/-- Only SEND's acceptance latches operands, only SEND moves its result, and only SEND's `Nack` or the host's write moves the
count (10_state.md rules R36, R38 and R41). -/
def Obligations.OnlySendMovesItsResults : Prop :=
  ∀ s : State, ∃ t, step s = .next t ∧
    ((t.btAddr = s.btAddr ∧ t.btData = s.btData) ∨ s.ports.rst = true ∨ (s.phase = .idle ∧ s.presented = .send)) ∧
    (t.busNack = s.busNack ∨ s.ports.rst = true ∨ (s.phase = .idle ∧ s.presented = .send) ∨
      (s.phase = .tNwstp ∧ s.ports.bcStp = false) ∨ (s.phase = .tWstp ∧ s.ports.bcStp = false)) ∧
    (t.nackCnt = s.nackCnt ∨ s.ports.rst = true ∨ (s.phase = .tNwstp ∧ s.ports.bcStp = false) ∨
      ∃ v, s.presented = .wrNackCnt v)

/-- Each sticky flag is set by its own event and cleared only by a reset or the host's write of a 1 to its bit (10_state.md
rules R33 to R35). -/
def Obligations.StickyFlagsHaveOneSetterAndOneClearer : Prop :=
  ∀ s : State, ∃ t, step s = .next t ∧
    (s.viewChg = false → t.viewChg = true → (s.phase = .vFdeb ∨ s.phase = .vBdeb) ∧ s.cnt = 0) ∧
    (s.ill = false → t.ill = true → s.phase = .idle ∧ s.presented.we = true ∧ s.presented.reg = .cmd ∧
      0x04 ≤ s.presented.data.toNat) ∧
    (s.ovr = false → t.ovr = true → s.phase ≠ .idle ∧ s.presented.we = true ∧ s.presented.reg = .cmd) ∧
    (s.viewChg = true → t.viewChg = false → s.ports.rst = true ∨ ∃ m, s.presented = .wrStatus m ∧ m.getLsbD 4 = true) ∧
    (s.ill = true → t.ill = false → s.ports.rst = true ∨ ∃ m, s.presented = .wrStatus m ∧ m.getLsbD 5 = true) ∧
    (s.ovr = true → t.ovr = false → s.ports.rst = true ∨ ∃ m, s.presented = .wrStatus m ∧ m.getLsbD 6 = true)

/-- `op` is written by command acceptance alone, the bus operands by the host's write to their own register alone, and the
parameters by nothing (10_state.md rules R25, R39 and R40; 70_reset_and_hazards.md rule R233 (2)). -/
def Obligations.OperandsAndKindHaveOneWriter : Prop :=
  ∀ s : State, ∃ t, step s = .next t ∧ t.params = s.params ∧
    (t.op = s.op ∨ s.ports.rst = true ∨
      (s.phase = .idle ∧ ((s.presented = .acq ∧ t.op = 1) ∨ (s.presented = .poll ∧ t.op = 2) ∨
        (s.presented = .send ∧ t.op = 3)))) ∧
    (t.busAddr = s.busAddr ∨ s.ports.rst = true ∨ ∃ v, s.presented = .wrBusAddr v) ∧
    (t.busData = s.busData ∨ s.ports.rst = true ∨ ∃ v, s.presented = .wrBusData v)

/-! ### What inputs can reach -/

/-- The controller's not-acknowledge flag is read in T_WSTT's exit cycle and in no other cycle: anywhere else its level changes
nothing (41_bus_transactor.md rules R128 and R138 (a), (b)). -/
def Obligations.NackIsReadOnlyAtStartCompletion : Prop :=
  ∀ (i : Instr) (s : State) (level : Bool), ¬ (s.phase = .tWstt ∧ s.ports.bcStt = false) →
    ∃ t, exec i s = .next t ∧
      exec i { s with ports := { s.ports with bcNack := level } } =
        .next { t with ports := { t.ports with bcNack := level } }

/-- The sensor line and the buttons reach the registers through their synchronisers' first stage and nowhere else
(10_state.md rule R30, 00_scope.md rule R7). -/
def Obligations.RawInputsReachOnlyTheSynchronisers : Prop :=
  ∀ (i : Instr) (s : State) (dq fwd bwd : Bool), ∃ t, exec i s = .next t ∧
    exec i { s with ports := { s.ports with dqIn := dq, fwdN := fwd, bwdN := bwd } } =
      .next { t with
        ports := { t.ports with dqIn := dq, fwdN := fwd, bwdN := bwd }
        dqSync := { t.dqSync with stage0 := dq }
        fwdSync := { t.fwdSync with stage0 := fwd }
        bwdSync := { t.bwdSync with stage0 := bwd } }

/-- `line(s)` in a cycle is the input's level two edges earlier (R30). -/
def Obligations.LineIsTheInputTwoEdgesEarlier : Prop :=
  ∀ s : State, s.NoReset 2 →
    (s.after 2).dqSync.line = s.ports.dqIn ∧ (s.after 2).fwdSync.line = s.ports.fwdN ∧
    (s.after 2).bwdSync.line = s.ports.bwdN

/-! ### The invariant -/

/-- Every step keeps the invariant of the state. -/
def Obligations.StepKeepsTheInvariant : Prop :=
  ∀ s t : State, s.Inv → step s = .next t → t.Inv

/-- A reset edge establishes the invariant from any state whatever, and the reset state has it, for all parameters that meet
00_scope.md rule R8. -/
def Obligations.ResetEstablishesTheInvariant : Prop :=
  (∀ s : State, s.params.DelaysFit → s.ports.rst = true → ∃ t, step s = .next t ∧ t.Inv) ∧
  (∀ p : Params, p.DelaysFit → ({ State.reset with params := p }).Inv)

/-! ### Runs -/

/-- The start pulse pulls the line low for exactly `T_START_CYC` cycles and then releases it (42_frame_decoder.md rule R153), for
parameters that meet 00_scope.md rule R8; where they also meet its 18 ms bound, the cycles the line is low last 18 ms. -/
def Obligations.StartPulseLastsExactly : Prop :=
  ∀ s : State, s.phase = .idle → s.presented = .acq → s.params.DelaysFit → s.NoReset (s.params.tStartCyc + 1) →
    (∀ k, 1 ≤ k → k ≤ s.params.tStartCyc → (s.after k).phase = .fStart ∧ (s.after k).dqDriveLow = true) ∧
    (s.after (s.params.tStartCyc + 1)).phase = .fAckRel ∧ (s.after (s.params.tStartCyc + 1)).dqDriveLow = false ∧
    (s.params.StartPulseLongEnough → 18 * s.params.fClk ≤ 1000 * s.lows (s.params.tStartCyc + 1))

/-- With the rise seen in cycle `r`, F_DELAY occupies cycles `r+1 .. r+T_SAMPLE_CYC` and F_SAMPLE is cycle
`r + T_SAMPLE_CYC + 1` (R156), for parameters that meet 00_scope.md rule R8. -/
def Obligations.SampleComesAFixedTimeAfterTheRise : Prop :=
  ∀ s : State, s.phase = .fRiseHigh → s.dqSync.line = true → s.params.DelaysFit →
    s.NoReset (s.params.tSampleCyc + 1) →
    (∀ k, 1 ≤ k → k ≤ s.params.tSampleCyc → (s.after k).phase = .fDelay) ∧
    (s.after (s.params.tSampleCyc + 1)).phase = .fSample

/-- From V_CHECK: a press is acted on after exactly `T_DEB_CYC` cycles, whatever the buttons and the host do meanwhile; with no
press the POLL is over in that one cycle (44_view_fsm.md rules R193, R194, R196 and R201 (c), (d)); for parameters that meet
00_scope.md rule R8. -/
def Obligations.PressIsActedOnAfterTheDebounce : Prop :=
  ∀ s : State, s.phase = .vCheck → s.params.DelaysFit → s.NoReset (s.params.tDebCyc + 1) →
    (s.fwdSync.line = false →
      (∀ k, 1 ≤ k → k ≤ s.params.tDebCyc → (s.after k).phase = .vFdeb ∧ (s.after k).view = s.view) ∧
      (s.after (s.params.tDebCyc + 1)).phase = .vFrel ∧ (s.after (s.params.tDebCyc + 1)).view = s.view + 1 ∧
      (s.after (s.params.tDebCyc + 1)).viewChg = true) ∧
    (s.fwdSync.line = true → s.bwdSync.line = false →
      (∀ k, 1 ≤ k → k ≤ s.params.tDebCyc → (s.after k).phase = .vBdeb ∧ (s.after k).view = s.view) ∧
      (s.after (s.params.tDebCyc + 1)).phase = .vBrel ∧ (s.after (s.params.tDebCyc + 1)).view = s.view - 1 ∧
      (s.after (s.params.tDebCyc + 1)).viewChg = true) ∧
    (s.fwdSync.line = true → s.bwdSync.line = true → (s.after 1).phase = .idle ∧ (s.after 1).view = s.view)

/-- A POLL moves the view at most once, and by what V_CHECK saw: once it differs from the old one it keeps its value to the POLL's
end (R199, R201 (a)). -/
def Obligations.PollMovesTheViewAtMostOnce : Prop :=
  ∀ (s : State) (n : Nat), s.phase = .vCheck → s.NoReset n → (∀ k < n, (s.after k).phase ≠ .idle) →
    ((s.after n).view = s.view ∨ (s.fwdSync.line = false ∧ (s.after n).view = s.view + 1) ∨
      (s.fwdSync.line = true ∧ s.bwdSync.line = false ∧ (s.after n).view = s.view - 1)) ∧
    ((s.after n).phase = .idle →
      (s.fwdSync.line = false → (s.after n).view = s.view + 1) ∧
      (s.fwdSync.line = true → s.bwdSync.line = false → (s.after n).view = s.view - 1) ∧
      (s.fwdSync.line = true → s.bwdSync.line = true → (s.after n).view = s.view)) ∧
    (∀ k ≤ n, (s.after k).view ≠ s.view → (s.after n).view = (s.after k).view)

/-- UnboundedWait: as long as a wait's condition does not hold, the sequencer stays in its phase, BUSY, with the command's
registers as they are, however long that is and whatever the host writes (60_exceptions.md rule R214). -/
def Obligations.WaitLastsUntilItsCondition : Prop :=
  ∀ (s : State) (n : Nat), s.NoReset n → (∀ k < n, (s.after k).held = true) →
    (s.after n).phase = s.phase ∧ (s.after n).sr = s.sr ∧ (s.after n).bitidx = s.bitidx ∧
    (s.after n).frameRdy = s.frameRdy ∧ (s.after n).view = s.view ∧ (s.after n).busNack = s.busNack ∧
    (s.after n).op = s.op ∧ (0 < n → (s.after n).busy = true)

/-- The bit-assembly law (42_frame_decoder.md rule R159): at every moment of an ACQ, SR is the bits sampled so far, read most
significant first, and `bitidx` counts them; when the ACQ completes there are 40, and each is in its place in SR and in its
byte. -/
def Obligations.BitsAreAssembledMostSignificantFirst : Prop :=
  ∀ (s : State) (n : Nat), s.phase = .idle → s.presented = .acq → 1 ≤ n → s.NoReset n →
    (∀ k, 1 ≤ k → k < n → (s.after k).phase ≠ .idle) →
    (s.after n).sr.toNat = bitsValue (s.samples n) ∧ (s.after n).bitidx.toNat = (s.samples n).length ∧
    ((s.after n).phase = .idle →
      (s.samples n).length = 40 ∧ (s.after n).frameRdy = true ∧
      (∀ j < 40, (s.after n).sr.getLsbD (39 - j) = (s.samples n).getD j false) ∧
      (∀ j < 8, (s.after n).b0.getLsbD (7 - j) = (s.samples n).getD j false ∧
        (s.after n).b1.getLsbD (7 - j) = (s.samples n).getD (8 + j) false ∧
        (s.after n).b2.getLsbD (7 - j) = (s.samples n).getD (16 + j) false ∧
        (s.after n).b3.getLsbD (7 - j) = (s.samples n).getD (24 + j) false ∧
        (s.after n).b4.getLsbD (7 - j) = (s.samples n).getD (32 + j) false))

/-- The discrimination law (R160): a high phase of the sensor line that covers `h` sampling edges, and whose rise F_RISE_HIGH sees
`j` cycles on, with the line low up to it and from its end past the sample point, is recorded as 1 if and only if
`h >= T_SAMPLE_CYC + 2`.  The levels are those of `dq_in` as the synchroniser passes them on (`State.dqAhead`), so the rise may be
in the synchroniser already, and its delay cancels.  In time units: a phase of `w` nanoseconds that covers `h` edges is taken to
last `h - 1` to `h + 1` clock periods (log entry 13), and under R160's sufficient condition one of at most `w0max` is a 0 and one
of at least `w1min` a 1.  For parameters that meet 00_scope.md rule R8. -/
def Obligations.PulseWidthDecidesTheBit : Prop :=
  ∀ (s : State) (j h : Nat), s.phase = .fRiseHigh → s.params.DelaysFit → 1 ≤ h → s.NoReset (j + s.params.tSampleCyc + 2) →
    (∀ k < j, s.dqAhead k = false) →
    (∀ k, j ≤ k → k < j + h → s.dqAhead k = true) →
    (∀ k, j + h ≤ k → k ≤ j + s.params.tSampleCyc + 1 → s.dqAhead k = false) →
    (s.after (j + s.params.tSampleCyc + 1)).phase = .fSample ∧
    (s.after (j + s.params.tSampleCyc + 2)).sr =
      BitVec.ofNat 40 (2 * s.sr.toNat + (decide (s.params.tSampleCyc + 2 ≤ h)).toNat) ∧
    (s.after (j + s.params.tSampleCyc + 2)).bitidx = s.bitidx + 1 ∧
    (∀ w w0max w1min : Nat, s.params.Discriminates w0max w1min →
      h * 1000000000 ≤ w * s.params.fClk + 1000000000 → w * s.params.fClk ≤ (h + 1) * 1000000000 →
      (w ≤ w0max → (s.after (j + s.params.tSampleCyc + 2)).sr.getLsbD 0 = false) ∧
      (w1min ≤ w → (s.after (j + s.params.tSampleCyc + 2)).sr.getLsbD 0 = true))

/-- A sensor that keeps the waveform contract S1 to S5 has its frame received: from F_ACK_REL, entered with the driven low still
in both stages of the synchroniser (log entry 17), the ACQ ends with the 40 bits in SR, most significant first, and FRAME_RDY
set, whatever the host writes meanwhile (42_frame_decoder.md rules R150, R151 and R159; the contract as pulse widths in sampling
edges is the model's reading, log entry 13), for parameters that meet 00_scope.md rule R8. -/
def Obligations.ContractWaveformIsReceived : Prop :=
  ∀ (s : State) (w : SensorWave), s.phase = .fAckRel → s.dqSync = ⟨false, false⟩ → s.sr = 0 → s.bitidx = 0 →
    s.params.DelaysFit → w.Keeps s.params.tSampleCyc → s.NoReset (w.levels.length + 1) →
    (∀ k < w.levels.length, some (s.after k).ports.dqIn = w.levels[k]?) →
    ∃ n ≤ w.levels.length + 1, (∀ k < n, (s.after k).phase ≠ .idle) ∧ (s.after n).phase = .idle ∧
      (s.after n).frameRdy = true ∧ (s.after n).bitidx = 40 ∧
      (s.after n).sr.toNat = bitsValue (w.bits.map (fun b => b.bit))

/-- Every SEND that completes has given exactly one stop strobe, has seen `bc_stp == 0` after it, and reports `Nack` exactly when
it took the not-acknowledge path (41_bus_transactor.md rule R136). -/
def Obligations.CompletedSendGaveOneStop : Prop :=
  ∀ (s : State) (n : Nat), s.phase = .tAddr → s.NoReset n → (∀ k < n, (s.after k).phase ≠ .idle) →
    (s.after n).phase = .idle →
    s.stops n = 1 ∧
    (∃ k, k + 1 = n ∧ (s.after k).ports.bcStp = false ∧ ((s.after k).phase = .tNwstp ∨ (s.after k).phase = .tWstp)) ∧
    ((s.after n).busNack = true ↔ ∃ k < n, (s.after k).phase = .tNstop) ∧
    ((s.after n).busNack = false ↔ ∃ k < n, (s.after k).phase = .tStop)

/-- A SEND sends the operands latched at its acceptance, whatever the host writes to BUS_ADDR and BUS_DATA while it runs
(10_state.md rule R41, 70_reset_and_hazards.md rule R238). -/
def Obligations.RunningSendKeepsItsOperands : Prop :=
  ∀ (s : State) (n : Nat), s.phase = .idle → s.presented = .send → s.NoReset n →
    (∀ k, 1 ≤ k → k < n → (s.after k).phase ≠ .idle) →
    ∀ k, 1 ≤ k → k < n → (s.after k).bcSa = s.busAddr ∧ (s.after k).bcTxData = s.busData

/-- With a controller that keeps K5, the wait after a stop strobe does not pass in its first cycle: the stop condition is seen
in progress before a SEND can end (41_bus_transactor.md rules R122, R130 and R133). -/
def Obligations.StopIsSeenInProgress : Prop :=
  ∀ s : State, s.phase = .tNstop ∨ s.phase = .tStop → s.NoReset 2 → s.ControllerKeeps →
    (s.after 1).ports.bcStp = true ∧ (s.after 2).phase = (if s.phase = .tNstop then .tNwstp else .tWstp) ∧
    (s.after 2).busy = true
end

