-- ==== Sys2Proof/Laws/Codec.lean ====
section
/-! SUPPORT. Sys2Proof/Laws/Codec.lean: the laws of the host transaction word's fields and of the register addresses. -/

namespace Sys2Proof

/-- The word's bits, by field. -/
theorem htwOf_getLsbD (we : Bool) (a : RegAddr) (d : Byte) (k : Nat) :
    (htwOf we a d).getLsbD k = if k < 8 then d.getLsbD k else if k < 12 then a.getLsbD (k - 8) else (we && decide (k = 12)) := by
  have h : (htwOf we a d).getLsbD k = (BitVec.ofBool we ++ a ++ d).getLsbD k := rfl
  rw [h, BitVec.getLsbD_append, BitVec.getLsbD_append]
  by_cases h1 : k < 8
  · simp [h1]
  · by_cases h2 : k < 12
    · have : k - 8 < 4 := by omega
      simp [h1, h2, this]
    · have h3 : ¬ k - 8 < 4 := by omega
      simp only [h1, h2, h3, if_false]
      by_cases h4 : k = 12
      · subst h4; cases we <;> rfl
      · have : 1 ≤ k - 8 - 4 := by omega
        simp [h4, BitVec.getLsbD_of_ge _ _ this]

/-- The word as a number. -/
theorem htwOf_toNat (we : Bool) (a : RegAddr) (d : Byte) :
    (htwOf we a d).toNat = we.toNat * 4096 + a.toNat * 256 + d.toNat := by
  have h : (htwOf we a d).toNat = (BitVec.ofBool we ++ a ++ d).toNat := rfl
  have hw : (BitVec.ofBool we).toNat = we.toNat := by cases we <;> rfl
  rw [h, BitVec.toNat_append, BitVec.toNat_append, hw, ← Nat.shiftLeft_add_eq_or_of_lt d.isLt,
    ← Nat.shiftLeft_add_eq_or_of_lt a.isLt, Nat.shiftLeft_eq, Nat.shiftLeft_eq]
  omega

@[simp] theorem htwOf_we (we : Bool) (a : RegAddr) (d : Byte) : (htwOf we a d).we = we := by
  rw [Htw.we, htwOf_getLsbD]; simp

@[simp] theorem htwOf_addr (we : Bool) (a : RegAddr) (d : Byte) : (htwOf we a d).addr = a := by
  apply BitVec.eq_of_toNat_eq
  have := a.isLt
  have := d.isLt
  simp only [Htw.addr, BitVec.extractLsb'_toNat, htwOf_toNat, Nat.shiftRight_eq_div_pow]
  omega

@[simp] theorem htwOf_data (we : Bool) (a : RegAddr) (d : Byte) : (htwOf we a d).data = d := by
  apply BitVec.eq_of_toNat_eq
  have := a.isLt
  have := d.isLt
  simp only [Htw.data, BitVec.extractLsb'_toNat, htwOf_toNat, Nat.shiftRight_eq_div_pow]
  omega

/-- The mask of an addressed row keeps `we` and `addr` (30_encoding.md rule R83). -/
theorem htwOf_mask (we : Bool) (a : RegAddr) (d : Byte) : (htwOf we a d &&& 0x1F00#13) = htwOf we a 0#8 := by
  apply BitVec.eq_of_getLsbD_eq
  intro k hk
  rw [BitVec.getLsbD_and, htwOf_getLsbD, htwOf_getLsbD]
  interval_cases k <;> simp

@[simp] theorem Reg.ofAddr_addr (r : Reg) : Reg.ofAddr r.addr = r := by cases r <;> rfl

@[simp] theorem Reg.addr_ofAddr (a : RegAddr) : (Reg.ofAddr a).addr = a := by revert a; decide

/-- A word is its three fields (30_encoding.md rule R81). -/
theorem htwOf_fields (h : Htw) : htwOf h.we h.addr h.data = h := by
  apply BitVec.eq_of_toNat_eq
  have := h.isLt
  rw [htwOf_toNat]
  have hw : h.we.toNat = h.toNat / 4096 := by
    simp only [Htw.we, BitVec.getLsbD, Nat.testBit, Nat.shiftRight_eq_div_pow, Nat.one_and_eq_mod_two]
    have h2 : h.toNat / 2 ^ 12 < 2 := by omega
    interval_cases h3 : h.toNat / 2 ^ 12 <;> simp
  simp only [hw, Htw.addr, Htw.data, BitVec.extractLsb'_toNat, Nat.shiftRight_eq_div_pow]
  omega

/-- What a `WR CMD` word decodes to has the word's fields (30_encoding.md rules R82 and R85). -/
theorem decodeCommand_fields (c : Byte) :
    (decodeCommand c).we = true ∧ (decodeCommand c).reg = .cmd ∧ (decodeCommand c).data = c := by
  unfold decodeCommand
  repeat' split
  all_goals simp_all [Instr.we, Instr.reg, Instr.data]

/-- Decoding keeps the write bit. -/
@[simp] theorem decode_we (h : Htw) : (decode h).we = h.we := by
  unfold decode decodeRead decodeWrite
  cases h.we <;> cases Reg.ofAddr h.addr <;> first | rfl | exact (decodeCommand_fields h.data).1

/-- Decoding keeps the register. -/
@[simp] theorem decode_reg (h : Htw) : (decode h).reg = Reg.ofAddr h.addr := by
  unfold decode decodeRead decodeWrite
  cases h.we <;> cases Reg.ofAddr h.addr <;> first | rfl | exact (decodeCommand_fields h.data).2.1

/-- Decoding keeps the data byte. -/
@[simp] theorem decode_data (h : Htw) : (decode h).data = h.data := by
  unfold decode decodeRead decodeWrite
  cases h.we <;> cases Reg.ofAddr h.addr <;> first | rfl | exact (decodeCommand_fields h.data).2.2
end Sys2Proof
end

