-- ==== Sys2Proof/Laws/State.lean ====
section
/-! SUPPORT. Sys2Proof/Laws/State.lean: one lemma for each field and each shared update of the state, true by rfl. -/

namespace Sys2Proof.Machine

section sampleInputs
@[simp] theorem State.sampleInputs_phase (s : State) : (s.sampleInputs).phase = s.phase := rfl
@[simp] theorem State.sampleInputs_op (s : State) : (s.sampleInputs).op = s.op := rfl
@[simp] theorem State.sampleInputs_cnt (s : State) : (s.sampleInputs).cnt = s.cnt := rfl
@[simp] theorem State.sampleInputs_bitidx (s : State) : (s.sampleInputs).bitidx = s.bitidx := rfl
@[simp] theorem State.sampleInputs_sr (s : State) : (s.sampleInputs).sr = s.sr := rfl
@[simp] theorem State.sampleInputs_dqSync (s : State) : (s.sampleInputs).dqSync = s.dqSync.shift s.ports.dqIn := rfl
@[simp] theorem State.sampleInputs_fwdSync (s : State) : (s.sampleInputs).fwdSync = s.fwdSync.shift s.ports.fwdN := rfl
@[simp] theorem State.sampleInputs_bwdSync (s : State) : (s.sampleInputs).bwdSync = s.bwdSync.shift s.ports.bwdN := rfl
@[simp] theorem State.sampleInputs_frameRdy (s : State) : (s.sampleInputs).frameRdy = s.frameRdy := rfl
@[simp] theorem State.sampleInputs_view (s : State) : (s.sampleInputs).view = s.view := rfl
@[simp] theorem State.sampleInputs_viewChg (s : State) : (s.sampleInputs).viewChg = s.viewChg := rfl
@[simp] theorem State.sampleInputs_ill (s : State) : (s.sampleInputs).ill = s.ill := rfl
@[simp] theorem State.sampleInputs_ovr (s : State) : (s.sampleInputs).ovr = s.ovr := rfl
@[simp] theorem State.sampleInputs_busNack (s : State) : (s.sampleInputs).busNack = s.busNack := rfl
@[simp] theorem State.sampleInputs_nackCnt (s : State) : (s.sampleInputs).nackCnt = s.nackCnt := rfl
@[simp] theorem State.sampleInputs_busAddr (s : State) : (s.sampleInputs).busAddr = s.busAddr := rfl
@[simp] theorem State.sampleInputs_busData (s : State) : (s.sampleInputs).busData = s.busData := rfl
@[simp] theorem State.sampleInputs_btAddr (s : State) : (s.sampleInputs).btAddr = s.btAddr := rfl
@[simp] theorem State.sampleInputs_btData (s : State) : (s.sampleInputs).btData = s.btData := rfl
@[simp] theorem State.sampleInputs_params (s : State) : (s.sampleInputs).params = s.params := rfl
@[simp] theorem State.sampleInputs_ports (s : State) : (s.sampleInputs).ports = s.ports := rfl
@[simp] theorem State.sampleInputs_coming (s : State) : (s.sampleInputs).coming = s.coming := rfl
@[simp] theorem State.sampleInputs_edges (s : State) : (s.sampleInputs).edges = s.edges := rfl
@[simp] theorem State.sampleInputs_rdata (s : State) : (s.sampleInputs).rdata = s.rdata := rfl

end sampleInputs

section goto
@[simp] theorem State.goto_phase (p : Phase) (s : State) : (s.goto p).phase = p := rfl
@[simp] theorem State.goto_op (p : Phase) (s : State) : (s.goto p).op = s.op := rfl
@[simp] theorem State.goto_cnt (p : Phase) (s : State) : (s.goto p).cnt = s.cnt := rfl
@[simp] theorem State.goto_bitidx (p : Phase) (s : State) : (s.goto p).bitidx = s.bitidx := rfl
@[simp] theorem State.goto_sr (p : Phase) (s : State) : (s.goto p).sr = s.sr := rfl
@[simp] theorem State.goto_dqSync (p : Phase) (s : State) : (s.goto p).dqSync = s.dqSync := rfl
@[simp] theorem State.goto_fwdSync (p : Phase) (s : State) : (s.goto p).fwdSync = s.fwdSync := rfl
@[simp] theorem State.goto_bwdSync (p : Phase) (s : State) : (s.goto p).bwdSync = s.bwdSync := rfl
@[simp] theorem State.goto_frameRdy (p : Phase) (s : State) : (s.goto p).frameRdy = s.frameRdy := rfl
@[simp] theorem State.goto_view (p : Phase) (s : State) : (s.goto p).view = s.view := rfl
@[simp] theorem State.goto_viewChg (p : Phase) (s : State) : (s.goto p).viewChg = s.viewChg := rfl
@[simp] theorem State.goto_ill (p : Phase) (s : State) : (s.goto p).ill = s.ill := rfl
@[simp] theorem State.goto_ovr (p : Phase) (s : State) : (s.goto p).ovr = s.ovr := rfl
@[simp] theorem State.goto_busNack (p : Phase) (s : State) : (s.goto p).busNack = s.busNack := rfl
@[simp] theorem State.goto_nackCnt (p : Phase) (s : State) : (s.goto p).nackCnt = s.nackCnt := rfl
@[simp] theorem State.goto_busAddr (p : Phase) (s : State) : (s.goto p).busAddr = s.busAddr := rfl
@[simp] theorem State.goto_busData (p : Phase) (s : State) : (s.goto p).busData = s.busData := rfl
@[simp] theorem State.goto_btAddr (p : Phase) (s : State) : (s.goto p).btAddr = s.btAddr := rfl
@[simp] theorem State.goto_btData (p : Phase) (s : State) : (s.goto p).btData = s.btData := rfl
@[simp] theorem State.goto_params (p : Phase) (s : State) : (s.goto p).params = s.params := rfl
@[simp] theorem State.goto_ports (p : Phase) (s : State) : (s.goto p).ports = s.ports := rfl
@[simp] theorem State.goto_coming (p : Phase) (s : State) : (s.goto p).coming = s.coming := rfl
@[simp] theorem State.goto_edges (p : Phase) (s : State) : (s.goto p).edges = s.edges := rfl
@[simp] theorem State.goto_rdata (p : Phase) (s : State) : (s.goto p).rdata = s.rdata := rfl

end goto

section startDelay
@[simp] theorem State.startDelay_phase (n : Nat) (p : Phase) (s : State) : (s.startDelay n p).phase = p := rfl
@[simp] theorem State.startDelay_op (n : Nat) (p : Phase) (s : State) : (s.startDelay n p).op = s.op := rfl
@[simp] theorem State.startDelay_cnt (n : Nat) (p : Phase) (s : State) : (s.startDelay n p).cnt = cntLoad s.params.cntW n := rfl
@[simp] theorem State.startDelay_bitidx (n : Nat) (p : Phase) (s : State) : (s.startDelay n p).bitidx = s.bitidx := rfl
@[simp] theorem State.startDelay_sr (n : Nat) (p : Phase) (s : State) : (s.startDelay n p).sr = s.sr := rfl
@[simp] theorem State.startDelay_dqSync (n : Nat) (p : Phase) (s : State) : (s.startDelay n p).dqSync = s.dqSync := rfl
@[simp] theorem State.startDelay_fwdSync (n : Nat) (p : Phase) (s : State) : (s.startDelay n p).fwdSync = s.fwdSync := rfl
@[simp] theorem State.startDelay_bwdSync (n : Nat) (p : Phase) (s : State) : (s.startDelay n p).bwdSync = s.bwdSync := rfl
@[simp] theorem State.startDelay_frameRdy (n : Nat) (p : Phase) (s : State) : (s.startDelay n p).frameRdy = s.frameRdy := rfl
@[simp] theorem State.startDelay_view (n : Nat) (p : Phase) (s : State) : (s.startDelay n p).view = s.view := rfl
@[simp] theorem State.startDelay_viewChg (n : Nat) (p : Phase) (s : State) : (s.startDelay n p).viewChg = s.viewChg := rfl
@[simp] theorem State.startDelay_ill (n : Nat) (p : Phase) (s : State) : (s.startDelay n p).ill = s.ill := rfl
@[simp] theorem State.startDelay_ovr (n : Nat) (p : Phase) (s : State) : (s.startDelay n p).ovr = s.ovr := rfl
@[simp] theorem State.startDelay_busNack (n : Nat) (p : Phase) (s : State) : (s.startDelay n p).busNack = s.busNack := rfl
@[simp] theorem State.startDelay_nackCnt (n : Nat) (p : Phase) (s : State) : (s.startDelay n p).nackCnt = s.nackCnt := rfl
@[simp] theorem State.startDelay_busAddr (n : Nat) (p : Phase) (s : State) : (s.startDelay n p).busAddr = s.busAddr := rfl
@[simp] theorem State.startDelay_busData (n : Nat) (p : Phase) (s : State) : (s.startDelay n p).busData = s.busData := rfl
@[simp] theorem State.startDelay_btAddr (n : Nat) (p : Phase) (s : State) : (s.startDelay n p).btAddr = s.btAddr := rfl
@[simp] theorem State.startDelay_btData (n : Nat) (p : Phase) (s : State) : (s.startDelay n p).btData = s.btData := rfl
@[simp] theorem State.startDelay_params (n : Nat) (p : Phase) (s : State) : (s.startDelay n p).params = s.params := rfl
@[simp] theorem State.startDelay_ports (n : Nat) (p : Phase) (s : State) : (s.startDelay n p).ports = s.ports := rfl
@[simp] theorem State.startDelay_coming (n : Nat) (p : Phase) (s : State) : (s.startDelay n p).coming = s.coming := rfl
@[simp] theorem State.startDelay_edges (n : Nat) (p : Phase) (s : State) : (s.startDelay n p).edges = s.edges := rfl
@[simp] theorem State.startDelay_rdata (n : Nat) (p : Phase) (s : State) : (s.startDelay n p).rdata = s.rdata := rfl

end startDelay

section presentHtw
@[simp] theorem State.presentHtw_phase (h : Htw) (s : State) : (s.presentHtw h).phase = s.phase := rfl
@[simp] theorem State.presentHtw_op (h : Htw) (s : State) : (s.presentHtw h).op = s.op := rfl
@[simp] theorem State.presentHtw_cnt (h : Htw) (s : State) : (s.presentHtw h).cnt = s.cnt := rfl
@[simp] theorem State.presentHtw_bitidx (h : Htw) (s : State) : (s.presentHtw h).bitidx = s.bitidx := rfl
@[simp] theorem State.presentHtw_sr (h : Htw) (s : State) : (s.presentHtw h).sr = s.sr := rfl
@[simp] theorem State.presentHtw_dqSync (h : Htw) (s : State) : (s.presentHtw h).dqSync = s.dqSync := rfl
@[simp] theorem State.presentHtw_fwdSync (h : Htw) (s : State) : (s.presentHtw h).fwdSync = s.fwdSync := rfl
@[simp] theorem State.presentHtw_bwdSync (h : Htw) (s : State) : (s.presentHtw h).bwdSync = s.bwdSync := rfl
@[simp] theorem State.presentHtw_frameRdy (h : Htw) (s : State) : (s.presentHtw h).frameRdy = s.frameRdy := rfl
@[simp] theorem State.presentHtw_view (h : Htw) (s : State) : (s.presentHtw h).view = s.view := rfl
@[simp] theorem State.presentHtw_viewChg (h : Htw) (s : State) : (s.presentHtw h).viewChg = s.viewChg := rfl
@[simp] theorem State.presentHtw_ill (h : Htw) (s : State) : (s.presentHtw h).ill = s.ill := rfl
@[simp] theorem State.presentHtw_ovr (h : Htw) (s : State) : (s.presentHtw h).ovr = s.ovr := rfl
@[simp] theorem State.presentHtw_busNack (h : Htw) (s : State) : (s.presentHtw h).busNack = s.busNack := rfl
@[simp] theorem State.presentHtw_nackCnt (h : Htw) (s : State) : (s.presentHtw h).nackCnt = s.nackCnt := rfl
@[simp] theorem State.presentHtw_busAddr (h : Htw) (s : State) : (s.presentHtw h).busAddr = s.busAddr := rfl
@[simp] theorem State.presentHtw_busData (h : Htw) (s : State) : (s.presentHtw h).busData = s.busData := rfl
@[simp] theorem State.presentHtw_btAddr (h : Htw) (s : State) : (s.presentHtw h).btAddr = s.btAddr := rfl
@[simp] theorem State.presentHtw_btData (h : Htw) (s : State) : (s.presentHtw h).btData = s.btData := rfl
@[simp] theorem State.presentHtw_params (h : Htw) (s : State) : (s.presentHtw h).params = s.params := rfl
@[simp] theorem State.presentHtw_ports (h : Htw) (s : State) : (s.presentHtw h).ports = portsWithHtw h s.ports := rfl
@[simp] theorem State.presentHtw_coming (h : Htw) (s : State) : (s.presentHtw h).coming = s.coming := rfl
@[simp] theorem State.presentHtw_edges (h : Htw) (s : State) : (s.presentHtw h).edges = s.edges := rfl
@[simp] theorem State.presentHtw_rdata (h : Htw) (s : State) : (s.presentHtw h).rdata = s.rdata := rfl

end presentHtw

section resetEdge
@[simp] theorem State.resetEdge_phase (s : State) : (s.resetEdge).phase = .idle := rfl
@[simp] theorem State.resetEdge_op (s : State) : (s.resetEdge).op = 0 := rfl
@[simp] theorem State.resetEdge_cnt (s : State) : (s.resetEdge).cnt = 0 := rfl
@[simp] theorem State.resetEdge_bitidx (s : State) : (s.resetEdge).bitidx = 0 := rfl
@[simp] theorem State.resetEdge_sr (s : State) : (s.resetEdge).sr = 0 := rfl
@[simp] theorem State.resetEdge_dqSync (s : State) : (s.resetEdge).dqSync = ⟨true, true⟩ := rfl
@[simp] theorem State.resetEdge_fwdSync (s : State) : (s.resetEdge).fwdSync = ⟨true, true⟩ := rfl
@[simp] theorem State.resetEdge_bwdSync (s : State) : (s.resetEdge).bwdSync = ⟨true, true⟩ := rfl
@[simp] theorem State.resetEdge_frameRdy (s : State) : (s.resetEdge).frameRdy = false := rfl
@[simp] theorem State.resetEdge_view (s : State) : (s.resetEdge).view = 0 := rfl
@[simp] theorem State.resetEdge_viewChg (s : State) : (s.resetEdge).viewChg = false := rfl
@[simp] theorem State.resetEdge_ill (s : State) : (s.resetEdge).ill = false := rfl
@[simp] theorem State.resetEdge_ovr (s : State) : (s.resetEdge).ovr = false := rfl
@[simp] theorem State.resetEdge_busNack (s : State) : (s.resetEdge).busNack = false := rfl
@[simp] theorem State.resetEdge_nackCnt (s : State) : (s.resetEdge).nackCnt = 0 := rfl
@[simp] theorem State.resetEdge_busAddr (s : State) : (s.resetEdge).busAddr = 0 := rfl
@[simp] theorem State.resetEdge_busData (s : State) : (s.resetEdge).busData = 0 := rfl
@[simp] theorem State.resetEdge_btAddr (s : State) : (s.resetEdge).btAddr = 0 := rfl
@[simp] theorem State.resetEdge_btData (s : State) : (s.resetEdge).btData = 0 := rfl
@[simp] theorem State.resetEdge_params (s : State) : (s.resetEdge).params = s.params := rfl
@[simp] theorem State.resetEdge_ports (s : State) : (s.resetEdge).ports = s.ports := rfl
@[simp] theorem State.resetEdge_coming (s : State) : (s.resetEdge).coming = s.coming := rfl
@[simp] theorem State.resetEdge_edges (s : State) : (s.resetEdge).edges = s.edges := rfl

end resetEdge

section hostCycle
@[simp] theorem hostCycle_phase (r : Reg) (w : State → State) (s : State) : (hostCycle r w s).phase = (clockEdge w s).phase := rfl
@[simp] theorem hostCycle_op (r : Reg) (w : State → State) (s : State) : (hostCycle r w s).op = (clockEdge w s).op := rfl
@[simp] theorem hostCycle_cnt (r : Reg) (w : State → State) (s : State) : (hostCycle r w s).cnt = (clockEdge w s).cnt := rfl
@[simp] theorem hostCycle_bitidx (r : Reg) (w : State → State) (s : State) : (hostCycle r w s).bitidx = (clockEdge w s).bitidx := rfl
@[simp] theorem hostCycle_sr (r : Reg) (w : State → State) (s : State) : (hostCycle r w s).sr = (clockEdge w s).sr := rfl
@[simp] theorem hostCycle_dqSync (r : Reg) (w : State → State) (s : State) : (hostCycle r w s).dqSync = (clockEdge w s).dqSync := rfl
@[simp] theorem hostCycle_fwdSync (r : Reg) (w : State → State) (s : State) : (hostCycle r w s).fwdSync = (clockEdge w s).fwdSync := rfl
@[simp] theorem hostCycle_bwdSync (r : Reg) (w : State → State) (s : State) : (hostCycle r w s).bwdSync = (clockEdge w s).bwdSync := rfl
@[simp] theorem hostCycle_frameRdy (r : Reg) (w : State → State) (s : State) : (hostCycle r w s).frameRdy = (clockEdge w s).frameRdy := rfl
@[simp] theorem hostCycle_view (r : Reg) (w : State → State) (s : State) : (hostCycle r w s).view = (clockEdge w s).view := rfl
@[simp] theorem hostCycle_viewChg (r : Reg) (w : State → State) (s : State) : (hostCycle r w s).viewChg = (clockEdge w s).viewChg := rfl
@[simp] theorem hostCycle_ill (r : Reg) (w : State → State) (s : State) : (hostCycle r w s).ill = (clockEdge w s).ill := rfl
@[simp] theorem hostCycle_ovr (r : Reg) (w : State → State) (s : State) : (hostCycle r w s).ovr = (clockEdge w s).ovr := rfl
@[simp] theorem hostCycle_busNack (r : Reg) (w : State → State) (s : State) : (hostCycle r w s).busNack = (clockEdge w s).busNack := rfl
@[simp] theorem hostCycle_nackCnt (r : Reg) (w : State → State) (s : State) : (hostCycle r w s).nackCnt = (clockEdge w s).nackCnt := rfl
@[simp] theorem hostCycle_busAddr (r : Reg) (w : State → State) (s : State) : (hostCycle r w s).busAddr = (clockEdge w s).busAddr := rfl
@[simp] theorem hostCycle_busData (r : Reg) (w : State → State) (s : State) : (hostCycle r w s).busData = (clockEdge w s).busData := rfl
@[simp] theorem hostCycle_btAddr (r : Reg) (w : State → State) (s : State) : (hostCycle r w s).btAddr = (clockEdge w s).btAddr := rfl
@[simp] theorem hostCycle_btData (r : Reg) (w : State → State) (s : State) : (hostCycle r w s).btData = (clockEdge w s).btData := rfl
@[simp] theorem hostCycle_params (r : Reg) (w : State → State) (s : State) : (hostCycle r w s).params = (clockEdge w s).params := rfl
@[simp] theorem hostCycle_ports (r : Reg) (w : State → State) (s : State) : (hostCycle r w s).ports = (clockEdge w s).ports := rfl
@[simp] theorem hostCycle_coming (r : Reg) (w : State → State) (s : State) : (hostCycle r w s).coming = (clockEdge w s).coming := rfl
@[simp] theorem hostCycle_edges (r : Reg) (w : State → State) (s : State) : (hostCycle r w s).edges = (clockEdge w s).edges := rfl
@[simp] theorem hostCycle_rdata (r : Reg) (w : State → State) (s : State) : (hostCycle r w s).rdata = readVal r s := rfl

end hostCycle

section synchroniser

@[simp] theorem SyncChain.shift_line (level : Bool) (c : SyncChain) : (c.shift level).line = c.stage0 := rfl
@[simp] theorem SyncChain.shift_stage0 (level : Bool) (c : SyncChain) : (c.shift level).stage0 = level := rfl
@[simp] theorem SyncChain.shift_stage1 (level : Bool) (c : SyncChain) : (c.shift level).stage1 = c.stage0 := rfl

end synchroniser

section nextCycle

/-- The passage to the next cycle changes the ports, what is to come and the edge count, and no register. -/
theorem State.nextCycle_eq (s : State) : ∃ p c, s.nextCycle = { s with ports := p, coming := c, edges := s.edges + 1 } := by
  unfold State.nextCycle
  split
  · exact ⟨_, s.coming, rfl⟩
  · exact ⟨_, _, rfl⟩

/-- With levels to come, the first of them come to the ports. -/
theorem State.nextCycle_cons {s : State} {p : Ports} {rest : List Ports} (h : s.coming = p :: rest) :
    s.nextCycle = { s with ports := p, coming := rest, edges := s.edges + 1 } := by
  simp only [State.nextCycle, h]

@[simp] theorem State.nextCycle_phase (s : State) : s.nextCycle.phase = s.phase := by
  obtain ⟨p, c, h⟩ := s.nextCycle_eq; rw [h]
@[simp] theorem State.nextCycle_op (s : State) : s.nextCycle.op = s.op := by
  obtain ⟨p, c, h⟩ := s.nextCycle_eq; rw [h]
@[simp] theorem State.nextCycle_cnt (s : State) : s.nextCycle.cnt = s.cnt := by
  obtain ⟨p, c, h⟩ := s.nextCycle_eq; rw [h]
@[simp] theorem State.nextCycle_bitidx (s : State) : s.nextCycle.bitidx = s.bitidx := by
  obtain ⟨p, c, h⟩ := s.nextCycle_eq; rw [h]
@[simp] theorem State.nextCycle_sr (s : State) : s.nextCycle.sr = s.sr := by
  obtain ⟨p, c, h⟩ := s.nextCycle_eq; rw [h]
@[simp] theorem State.nextCycle_dqSync (s : State) : s.nextCycle.dqSync = s.dqSync := by
  obtain ⟨p, c, h⟩ := s.nextCycle_eq; rw [h]
@[simp] theorem State.nextCycle_fwdSync (s : State) : s.nextCycle.fwdSync = s.fwdSync := by
  obtain ⟨p, c, h⟩ := s.nextCycle_eq; rw [h]
@[simp] theorem State.nextCycle_bwdSync (s : State) : s.nextCycle.bwdSync = s.bwdSync := by
  obtain ⟨p, c, h⟩ := s.nextCycle_eq; rw [h]
@[simp] theorem State.nextCycle_frameRdy (s : State) : s.nextCycle.frameRdy = s.frameRdy := by
  obtain ⟨p, c, h⟩ := s.nextCycle_eq; rw [h]
@[simp] theorem State.nextCycle_view (s : State) : s.nextCycle.view = s.view := by
  obtain ⟨p, c, h⟩ := s.nextCycle_eq; rw [h]
@[simp] theorem State.nextCycle_viewChg (s : State) : s.nextCycle.viewChg = s.viewChg := by
  obtain ⟨p, c, h⟩ := s.nextCycle_eq; rw [h]
@[simp] theorem State.nextCycle_ill (s : State) : s.nextCycle.ill = s.ill := by
  obtain ⟨p, c, h⟩ := s.nextCycle_eq; rw [h]
@[simp] theorem State.nextCycle_ovr (s : State) : s.nextCycle.ovr = s.ovr := by
  obtain ⟨p, c, h⟩ := s.nextCycle_eq; rw [h]
@[simp] theorem State.nextCycle_busNack (s : State) : s.nextCycle.busNack = s.busNack := by
  obtain ⟨p, c, h⟩ := s.nextCycle_eq; rw [h]
@[simp] theorem State.nextCycle_nackCnt (s : State) : s.nextCycle.nackCnt = s.nackCnt := by
  obtain ⟨p, c, h⟩ := s.nextCycle_eq; rw [h]
@[simp] theorem State.nextCycle_busAddr (s : State) : s.nextCycle.busAddr = s.busAddr := by
  obtain ⟨p, c, h⟩ := s.nextCycle_eq; rw [h]
@[simp] theorem State.nextCycle_busData (s : State) : s.nextCycle.busData = s.busData := by
  obtain ⟨p, c, h⟩ := s.nextCycle_eq; rw [h]
@[simp] theorem State.nextCycle_btAddr (s : State) : s.nextCycle.btAddr = s.btAddr := by
  obtain ⟨p, c, h⟩ := s.nextCycle_eq; rw [h]
@[simp] theorem State.nextCycle_btData (s : State) : s.nextCycle.btData = s.btData := by
  obtain ⟨p, c, h⟩ := s.nextCycle_eq; rw [h]
@[simp] theorem State.nextCycle_params (s : State) : s.nextCycle.params = s.params := by
  obtain ⟨p, c, h⟩ := s.nextCycle_eq; rw [h]
@[simp] theorem State.nextCycle_edges (s : State) : s.nextCycle.edges = s.edges + 1 := by
  obtain ⟨p, c, h⟩ := s.nextCycle_eq; rw [h]
@[simp] theorem State.nextCycle_rdata (s : State) : s.nextCycle.rdata = s.rdata := by
  obtain ⟨p, c, h⟩ := s.nextCycle_eq; rw [h]

end nextCycle

end Sys2Proof.Machine
end

