-- ==== Sys2Proof/Laws/Ops.lean ====
section
/-! SUPPORT. Sys2Proof/Laws/Ops.lean: one lemma for each shared operation, saying once what it can do. -/

namespace Sys2Proof.Machine

theorem State.busy_eq_false_iff (s : State) : s.busy = false ↔ s.phase = .idle := by simp [State.busy]

theorem State.busy_eq_true_iff (s : State) : s.busy = true ↔ s.phase ≠ .idle := by simp [State.busy]

@[simp] theorem waitFor_true (exit : State → State) (s : State) : waitFor true exit s = exit s := rfl

@[simp] theorem waitFor_false (exit : State → State) (s : State) : waitFor false exit s = s := rfl

/-- Within 00_scope.md rule R8's constraints a delay's counter starts at `n - 1` (rule R12). -/
theorem cntLoad_eq {w n : Nat} (h1 : 1 ≤ n) (h2 : n ≤ 2 ^ w) : cntLoad w n = n - 1 := by
  rw [cntLoad, show n + (2 ^ w - 1) = n - 1 + 2 ^ w by omega, Nat.add_mod_right, Nat.mod_eq_of_lt (by omega)]

/-- Whatever the delay, the counter holds `w` bits (10_state.md rule R26). -/
theorem cntLoad_lt (w n : Nat) : cntLoad w n < 2 ^ w := Nat.mod_lt _ (Nat.two_pow_pos _)

/-- A delay phase's last cycle. -/
theorem delay_of_cnt_zero {s : State} (exit : State → State) (h : s.cnt = 0) : delay exit s = exit s := by
  simp [delay, h]

/-- A delay phase's other cycles. -/
theorem delay_of_cnt_pos {s : State} (exit : State → State) (h : s.cnt ≠ 0) :
    delay exit s = { s with cnt := s.cnt - 1 } := by
  simp [delay, h]

theorem commandWrite_of_idle {s : State} (f : State → State) (h : s.phase = .idle) : commandWrite f s = f s := by
  simp [commandWrite, State.busy, h]

theorem commandWrite_of_busy {s : State} (f : State → State) (h : s.phase ≠ .idle) :
    commandWrite f s = { s with ovr := true } := by
  simp [commandWrite, State.busy, h, raise]

/-- Recording a condition moves the sequencer nowhere (60_exceptions.md rule R213). -/
theorem raise_phase (c : Condition) (s : State) : (raise c s).phase = s.phase := by cases c <;> rfl

/-- `nack_cnt` never wraps (41_bus_transactor.md rule R135). -/
theorem saturatingSucc_toNat (n : Byte) : (saturatingSucc n).toNat = min 255 (n.toNat + 1) := by
  unfold saturatingSucc
  split
  · next h => subst h; rfl
  · next h =>
    have h' : n.toNat ≠ 255 := fun e => h (BitVec.eq_of_toNat_eq (by simpa using e))
    have := n.isLt
    rw [BitVec.toNat_add]
    simp only [BitVec.toNat_ofNat]
    omega

/-- The shifted-in frame as a number. -/
theorem shiftIn_toNat (sr : Frame) (b : Bool) : (shiftIn sr b).toNat = (2 * sr.toNat + b.toNat) % 2 ^ 40 := by
  have h1 : (BitVec.ofBool b).toNat = b.toNat := by cases b <;> rfl
  have h2 : (sr.extractLsb' 0 39).toNat = sr.toNat % 2 ^ 39 := by simp [BitVec.extractLsb'_toNat]
  unfold shiftIn
  rw [BitVec.toNat_append, h1, h2]
  have hb : b.toNat < 2 := by cases b <;> decide
  have : (sr.toNat % 2 ^ 39) <<< 1 ||| b.toNat = 2 * (sr.toNat % 2 ^ 39) + b.toNat := by
    rw [← Nat.shiftLeft_add_eq_or_of_lt (by simpa using hb)]
    omega
  rw [this]
  omega

/-- The backward step is the forward step three times (44_view_fsm.md rule R198). -/
theorem viewBackward_eq (v : BitVec 2) : viewBackward v = v + 3#2 := by revert v; decide

end Sys2Proof.Machine
end

