-- ==== Sys2Proof/Laws/Exec.lean ====
section
/-! SUPPORT. Sys2Proof/Laws/Exec.lean: what one edge can do, said once: every instruction is one host cycle with its write's
effect, and the sequencer's step touches only the running command's registers. -/

namespace Sys2Proof.Machine

/-- What an instruction's write does at its edge, before the sequencer's step. -/
def writeEffect (i : Instr) : State → State :=
  match i with
  | .rdCmd _ => id
  | .rdStatus _ => id
  | .rdView _ => id
  | .rdB0 _ => id
  | .rdB1 _ => id
  | .rdB2 _ => id
  | .rdB3 _ => id
  | .rdB4 _ => id
  | .rdFtenLo _ => id
  | .rdFtenHi _ => id
  | .rdBusAddr _ => id
  | .rdBusData _ => id
  | .rdNackCnt _ => id
  | .rdPhase _ => id
  | .rdBitidx _ => id
  | .rdRsvdF _ => id
  | .nop => commandWrite id
  | .acq => commandWrite fun t => acceptAcq { t with op := 1 }
  | .poll => commandWrite fun t => acceptPoll { t with op := 2 }
  | .send => commandWrite fun t => acceptSend { t with op := 3 }
  | .wrCmdRsvd04 _ => commandWrite (raise .illegalCommand)
  | .wrCmdRsvd08 _ => commandWrite (raise .illegalCommand)
  | .wrCmdRsvd10 _ => commandWrite (raise .illegalCommand)
  | .wrCmdRsvd20 _ => commandWrite (raise .illegalCommand)
  | .wrCmdRsvd40 _ => commandWrite (raise .illegalCommand)
  | .wrCmdRsvd80 _ => commandWrite (raise .illegalCommand)
  | .wrStatus v => clearSticky v
  | .wrView _ => id
  | .wrB0 _ => id
  | .wrB1 _ => id
  | .wrB2 _ => id
  | .wrB3 _ => id
  | .wrB4 _ => id
  | .wrFtenLo _ => id
  | .wrFtenHi _ => id
  | .wrBusAddr v => fun t => { t with busAddr := busAddrOperand v }
  | .wrBusData v => fun t => { t with busData := v }
  | .wrNackCnt _ => fun t => { t with nackCnt := 0 }
  | .wrPhase _ => id
  | .wrBitidx _ => id
  | .wrRsvdF _ => id

/-- Every instruction's meaning is one host cycle: the addressed register's byte goes out, and the edge is made. -/
theorem exec_eq (i : Instr) (s : State) : exec i s = .next (hostCycle i.reg (writeEffect i) s) := by
  cases i <;> rfl

/-- An edge in IDLE: the host's write alone. -/
theorem clockEdge_of_idle {s : State} (w : State → State) (h : s.phase = .idle) :
    clockEdge w s = (w s).sampleInputs := by
  simp [clockEdge, State.busy, h]

/-- An edge while BUSY: the host's write, then the sequencer. -/
theorem clockEdge_of_busy {s : State} (w : State → State) (h : s.phase ≠ .idle) :
    clockEdge w s = (sequencerStep (w s)).sampleInputs := by
  simp [clockEdge, State.busy, h]

/-- What a write can do while BUSY: the registers the sequencer's step reads, but `nack_cnt`, are as before. -/
theorem writeEffect_of_busy (i : Instr) {s : State} (h : s.phase ≠ .idle) :
    ∃ vc il ov nc ba bd, writeEffect i s =
      { s with viewChg := vc, ill := il, ovr := ov, nackCnt := nc, busAddr := ba, busData := bd } := by
  have hb : s.busy = true := s.busy_eq_true_iff.mpr h
  cases i <;>
    first
    | exact ⟨s.viewChg, s.ill, s.ovr, s.nackCnt, s.busAddr, s.busData, rfl⟩
    | exact ⟨_, _, _, s.nackCnt, s.busAddr, s.busData, rfl⟩
    | exact ⟨s.viewChg, s.ill, s.ovr, _, s.busAddr, s.busData, rfl⟩
    | exact ⟨s.viewChg, s.ill, s.ovr, s.nackCnt, _, s.busData, rfl⟩
    | exact ⟨s.viewChg, s.ill, s.ovr, s.nackCnt, s.busAddr, _, rfl⟩
    | (refine ⟨s.viewChg, s.ill, true, s.nackCnt, s.busAddr, s.busData, ?_⟩
       simp [writeEffect, commandWrite, hb, raise])

/-- The sequencer's step writes only `phase`, `cnt`, `bitidx`, `SR`, `frame_rdy`, `view`, `view_chg`, `bus_nack` and `nack_cnt`
(20_memory.md rule R66). -/
theorem sequencerStep_frame (s : State) :
    ∃ ph c bi sr fr v vc bn nc, sequencerStep s =
      { s with phase := ph, cnt := c, bitidx := bi, sr := sr, frameRdy := fr, view := v, viewChg := vc, busNack := bn,
               nackCnt := nc } := by
  have self : ∃ ph c bi sr fr v vc bn nc, s =
      { s with phase := ph, cnt := c, bitidx := bi, sr := sr, frameRdy := fr, view := v, viewChg := vc, busNack := bn,
               nackCnt := nc } :=
    ⟨s.phase, s.cnt, s.bitidx, s.sr, s.frameRdy, s.view, s.viewChg, s.busNack, s.nackCnt, rfl⟩
  unfold sequencerStep
  split <;>
    try simp only [fStart, fAckRel, fAckLow, fAckHigh, fRiseLow, fRiseHigh, fDelay, fSample, fFall, acqDone, vCheck, vFdeb, vFrel,
      vBdeb, vBrel, tAddr, tStart, tWtx1, tWr, tWstt, tNstop, tNwstp, tWtx2, tStop, tWstp, waitFor, delay, raise]
  all_goals
    repeat' split
  all_goals
    first
    | exact self
    | exact ⟨_, _, _, _, _, _, _, _, _, rfl⟩

section sequencerFrame

@[simp] theorem sequencerStep_op (s : State) : (sequencerStep s).op = s.op := by
  obtain ⟨_, _, _, _, _, _, _, _, _, h⟩ := sequencerStep_frame s; rw [h]
@[simp] theorem sequencerStep_dqSync (s : State) : (sequencerStep s).dqSync = s.dqSync := by
  obtain ⟨_, _, _, _, _, _, _, _, _, h⟩ := sequencerStep_frame s; rw [h]
@[simp] theorem sequencerStep_fwdSync (s : State) : (sequencerStep s).fwdSync = s.fwdSync := by
  obtain ⟨_, _, _, _, _, _, _, _, _, h⟩ := sequencerStep_frame s; rw [h]
@[simp] theorem sequencerStep_bwdSync (s : State) : (sequencerStep s).bwdSync = s.bwdSync := by
  obtain ⟨_, _, _, _, _, _, _, _, _, h⟩ := sequencerStep_frame s; rw [h]
@[simp] theorem sequencerStep_ill (s : State) : (sequencerStep s).ill = s.ill := by
  obtain ⟨_, _, _, _, _, _, _, _, _, h⟩ := sequencerStep_frame s; rw [h]
@[simp] theorem sequencerStep_ovr (s : State) : (sequencerStep s).ovr = s.ovr := by
  obtain ⟨_, _, _, _, _, _, _, _, _, h⟩ := sequencerStep_frame s; rw [h]
@[simp] theorem sequencerStep_busAddr (s : State) : (sequencerStep s).busAddr = s.busAddr := by
  obtain ⟨_, _, _, _, _, _, _, _, _, h⟩ := sequencerStep_frame s; rw [h]
@[simp] theorem sequencerStep_busData (s : State) : (sequencerStep s).busData = s.busData := by
  obtain ⟨_, _, _, _, _, _, _, _, _, h⟩ := sequencerStep_frame s; rw [h]
@[simp] theorem sequencerStep_btAddr (s : State) : (sequencerStep s).btAddr = s.btAddr := by
  obtain ⟨_, _, _, _, _, _, _, _, _, h⟩ := sequencerStep_frame s; rw [h]
@[simp] theorem sequencerStep_btData (s : State) : (sequencerStep s).btData = s.btData := by
  obtain ⟨_, _, _, _, _, _, _, _, _, h⟩ := sequencerStep_frame s; rw [h]
@[simp] theorem sequencerStep_params (s : State) : (sequencerStep s).params = s.params := by
  obtain ⟨_, _, _, _, _, _, _, _, _, h⟩ := sequencerStep_frame s; rw [h]
@[simp] theorem sequencerStep_ports (s : State) : (sequencerStep s).ports = s.ports := by
  obtain ⟨_, _, _, _, _, _, _, _, _, h⟩ := sequencerStep_frame s; rw [h]
@[simp] theorem sequencerStep_coming (s : State) : (sequencerStep s).coming = s.coming := by
  obtain ⟨_, _, _, _, _, _, _, _, _, h⟩ := sequencerStep_frame s; rw [h]
@[simp] theorem sequencerStep_edges (s : State) : (sequencerStep s).edges = s.edges := by
  obtain ⟨_, _, _, _, _, _, _, _, _, h⟩ := sequencerStep_frame s; rw [h]
@[simp] theorem sequencerStep_rdata (s : State) : (sequencerStep s).rdata = s.rdata := by
  obtain ⟨_, _, _, _, _, _, _, _, _, h⟩ := sequencerStep_frame s; rw [h]

end sequencerFrame

/-! ### Steps and runs -/

/-- The presented transaction addresses the register at `h_addr`. -/
@[simp] theorem presented_reg (s : State) : s.presented.reg = Reg.ofAddr s.ports.hAddr := by
  simp [State.presented, portsHtw]

/-- The presented transaction is a write when `h_we` is 1. -/
@[simp] theorem presented_we (s : State) : s.presented.we = s.ports.hWe := by
  simp [State.presented, portsHtw]

/-- The presented transaction's data byte is `h_wdata`. -/
@[simp] theorem presented_data (s : State) : s.presented.data = s.ports.hWdata := by
  simp [State.presented, portsHtw]

/-- A step with `rst` high. -/
theorem step_of_rst {s : State} (h : s.ports.rst = true) : step s = .next s.resetEdge.nextCycle := by
  simp [step, h, afterEdge]

/-- A step with `rst` low: the presented instruction's host cycle. -/
theorem step_of_no_rst {s : State} (h : s.ports.rst = false) :
    step s = .next (hostCycle s.presented.reg (writeEffect s.presented) s).nextCycle := by
  simp [step, h, afterEdge, exec_eq, State.presented]

theorem tick_of_rst {s : State} (h : s.ports.rst = true) : s.tick = s.resetEdge.nextCycle := by
  simp [State.tick, step_of_rst h]

theorem tick_of_no_rst {s : State} (h : s.ports.rst = false) :
    s.tick = (hostCycle s.presented.reg (writeEffect s.presented) s).nextCycle := by
  simp [State.tick, step_of_no_rst h]

/-- The sequencer's step does not read the sticky flags, the count and the host's operands, but to set `view_chg` and to count
a `Nack`. -/
theorem sequencerStep_hostFields (s : State) (vc il ov : Bool) (nc bd : Byte) (ba : BusAddr) :
    sequencerStep { s with viewChg := vc, ill := il, ovr := ov, nackCnt := nc, busAddr := ba, busData := bd } =
      { sequencerStep s with
        viewChg := decide ((s.phase = .vFdeb ∨ s.phase = .vBdeb) ∧ s.cnt = 0) || vc
        ill := il
        ovr := ov
        nackCnt := if s.phase = .tNwstp ∧ s.ports.bcStp = false then saturatingSucc nc else nc
        busAddr := ba
        busData := bd } := by
  obtain ⟨ph, op, cnt, bi, sr, ⟨d0, d1⟩, ⟨f0, f1⟩, ⟨b0, b1⟩, fr, v, vcs, ils, ovs, bn, ncs, bas, bds, bta, btd, par,
    ⟨p0, p1, p2, p3, p4, p5, p6, p7, p8, p9, p10⟩, com, ed, rd⟩ := s
  cases ph
  case fFall =>
    cases d1
    · by_cases hb : bi.toNat = Config.frameBits <;> simp [sequencerStep, fFall, SyncChain.line, waitFor, acqDone, hb, State.goto]
    · simp [sequencerStep, fFall, SyncChain.line, waitFor]
  case vFdeb => cases cnt <;> simp [sequencerStep, vFdeb, delay, State.goto]
  case vBdeb => cases cnt <;> simp [sequencerStep, vBdeb, delay, State.goto]
  case fStart => cases cnt <;> simp [sequencerStep, fStart, delay, State.goto]
  case fDelay => cases cnt <;> simp [sequencerStep, fDelay, delay, State.goto]
  case vCheck => cases f1 <;> cases b1 <;> simp [sequencerStep, vCheck, SyncChain.line, State.goto, State.startDelay]
  case tWstt => cases p8 <;> cases p9 <;> simp [sequencerStep, tWstt, waitFor, State.goto]
  case tNwstp => cases p10 <;> simp [sequencerStep, tNwstp, waitFor, State.goto, raise]
  case vFrel => cases f1 <;> simp [sequencerStep, vFrel, SyncChain.line, waitFor, State.goto]
  case vBrel => cases b1 <;> simp [sequencerStep, vBrel, SyncChain.line, waitFor, State.goto]
  case tWtx1 => cases p7 <;> simp [sequencerStep, tWtx1, waitFor, State.goto]
  case tWtx2 => cases p7 <;> simp [sequencerStep, tWtx2, waitFor, State.goto]
  case tWstp => cases p10 <;> simp [sequencerStep, tWstp, waitFor, State.goto]
  case fSample => simp [sequencerStep, fSample]
  case fAckRel => cases d1 <;> simp [sequencerStep, fAckRel, SyncChain.line, waitFor, State.goto]
  case fAckLow => cases d1 <;> simp [sequencerStep, fAckLow, SyncChain.line, waitFor, State.goto]
  case fAckHigh => cases d1 <;> simp [sequencerStep, fAckHigh, SyncChain.line, waitFor, State.goto]
  case fRiseLow => cases d1 <;> simp [sequencerStep, fRiseLow, SyncChain.line, waitFor, State.goto]
  case fRiseHigh => cases d1 <;> simp [sequencerStep, fRiseHigh, SyncChain.line, waitFor, State.startDelay]
  all_goals simp [sequencerStep, tAddr, tStart, tWr, tNstop, tStop, State.goto]

/-- Only the debounce phases' exits set `view_chg`; nothing here clears it. -/
theorem sequencerStep_viewChg (s : State) :
    (sequencerStep s).viewChg = (decide ((s.phase = .vFdeb ∨ s.phase = .vBdeb) ∧ s.cnt = 0) || s.viewChg) :=
  congrArg State.viewChg (sequencerStep_hostFields s s.viewChg s.ill s.ovr s.nackCnt s.busData s.busAddr)

/-- Only the `Nack` completion counts. -/
theorem sequencerStep_nackCnt (s : State) :
    (sequencerStep s).nackCnt = if s.phase = .tNwstp ∧ s.ports.bcStp = false then saturatingSucc s.nackCnt else s.nackCnt :=
  congrArg State.nackCnt (sequencerStep_hostFields s s.viewChg s.ill s.ovr s.nackCnt s.busData s.busAddr)

/-- What an edge while BUSY does, whatever the host presents: the sequencer's step and the synchronisers, but for the flags, the
count and the operands the host can write. -/
theorem exec_of_busy (i : Instr) {s : State} (h : s.phase ≠ .idle) :
    ∃ vc il ov nc ba bd r, exec i s = .next { (sequencerStep s).sampleInputs with
      viewChg := vc, ill := il, ovr := ov, nackCnt := nc, busAddr := ba, busData := bd, rdata := r } := by
  obtain ⟨vc, il, ov, nc, ba, bd, hw⟩ := writeEffect_of_busy i h
  rw [exec_eq, hostCycle, clockEdge_of_busy _ h, hw, sequencerStep_hostFields]
  exact ⟨_, il, ov, _, ba, bd, _, rfl⟩

/-- The same for a cycle of a run. -/
theorem tick_of_busy {s : State} (hr : s.ports.rst = false) (h : s.phase ≠ .idle) :
    ∃ vc il ov nc ba bd r, s.tick = ({ (sequencerStep s).sampleInputs with
      viewChg := vc, ill := il, ovr := ov, nackCnt := nc, busAddr := ba, busData := bd, rdata := r }).nextCycle := by
  obtain ⟨vc, il, ov, nc, ba, bd, r, he⟩ := exec_of_busy s.presented h
  refine ⟨vc, il, ov, nc, ba, bd, r, ?_⟩
  have hs : step s = afterEdge (exec s.presented s) := by simp [step, hr, State.presented]
  simp [State.tick, hs, he, afterEdge]

section busyTick

variable {s : State} (hr : s.ports.rst = false) (h : s.phase ≠ .idle)
include hr h

theorem tick_phase_of_busy : s.tick.phase = (sequencerStep s).phase := by
  obtain ⟨_, _, _, _, _, _, _, ht⟩ := tick_of_busy hr h; simp [ht]
theorem tick_op_of_busy : s.tick.op = s.op := by
  obtain ⟨_, _, _, _, _, _, _, ht⟩ := tick_of_busy hr h; simp [ht]
theorem tick_cnt_of_busy : s.tick.cnt = (sequencerStep s).cnt := by
  obtain ⟨_, _, _, _, _, _, _, ht⟩ := tick_of_busy hr h; simp [ht]
theorem tick_bitidx_of_busy : s.tick.bitidx = (sequencerStep s).bitidx := by
  obtain ⟨_, _, _, _, _, _, _, ht⟩ := tick_of_busy hr h; simp [ht]
theorem tick_sr_of_busy : s.tick.sr = (sequencerStep s).sr := by
  obtain ⟨_, _, _, _, _, _, _, ht⟩ := tick_of_busy hr h; simp [ht]
theorem tick_frameRdy_of_busy : s.tick.frameRdy = (sequencerStep s).frameRdy := by
  obtain ⟨_, _, _, _, _, _, _, ht⟩ := tick_of_busy hr h; simp [ht]
theorem tick_view_of_busy : s.tick.view = (sequencerStep s).view := by
  obtain ⟨_, _, _, _, _, _, _, ht⟩ := tick_of_busy hr h; simp [ht]
theorem tick_busNack_of_busy : s.tick.busNack = (sequencerStep s).busNack := by
  obtain ⟨_, _, _, _, _, _, _, ht⟩ := tick_of_busy hr h; simp [ht]
theorem tick_btAddr_of_busy : s.tick.btAddr = s.btAddr := by
  obtain ⟨_, _, _, _, _, _, _, ht⟩ := tick_of_busy hr h; simp [ht]
theorem tick_btData_of_busy : s.tick.btData = s.btData := by
  obtain ⟨_, _, _, _, _, _, _, ht⟩ := tick_of_busy hr h; simp [ht]
theorem tick_params_of_busy : s.tick.params = s.params := by
  obtain ⟨_, _, _, _, _, _, _, ht⟩ := tick_of_busy hr h; simp [ht]
theorem tick_dqSync_of_busy : s.tick.dqSync = ⟨s.ports.dqIn, s.dqSync.stage0⟩ := by
  obtain ⟨_, _, _, _, _, _, _, ht⟩ := tick_of_busy hr h; simp [ht, State.sampleInputs, SyncChain.shift]
theorem tick_fwdSync_of_busy : s.tick.fwdSync = ⟨s.ports.fwdN, s.fwdSync.stage0⟩ := by
  obtain ⟨_, _, _, _, _, _, _, ht⟩ := tick_of_busy hr h; simp [ht, State.sampleInputs, SyncChain.shift]
theorem tick_bwdSync_of_busy : s.tick.bwdSync = ⟨s.ports.bwdN, s.bwdSync.stage0⟩ := by
  obtain ⟨_, _, _, _, _, _, _, ht⟩ := tick_of_busy hr h; simp [ht, State.sampleInputs, SyncChain.shift]

end busyTick

@[simp] theorem State.after_zero (s : State) : s.after 0 = s := rfl

theorem State.after_succ (n : Nat) (s : State) : s.after (n + 1) = (s.after n).tick := rfl

theorem State.after_add (m n : Nat) (s : State) : s.after (m + n) = (s.after m).after n := by
  induction n with
  | zero => rfl
  | succ n ih => rw [← Nat.add_assoc, State.after_succ, ih, State.after_succ]

/-- A run's first cycle, split off. -/
theorem State.after_succ' (n : Nat) (s : State) : s.after (n + 1) = s.tick.after n := by
  rw [Nat.add_comm, State.after_add]; rfl

theorem State.NoReset.mono {m n : Nat} {s : State} (h : s.NoReset n) (hm : m ≤ n) : s.NoReset m :=
  fun k hk => h k (Nat.lt_of_lt_of_le hk hm)

/-- An edge touches neither the levels at the ports, nor those to come, nor the count of edges. -/
theorem hostCycle_inputs (i : Instr) (s : State) :
    (hostCycle i.reg (writeEffect i) s).ports = s.ports ∧ (hostCycle i.reg (writeEffect i) s).coming = s.coming ∧
    (hostCycle i.reg (writeEffect i) s).edges = s.edges := by
  have hw : (writeEffect i s).ports = s.ports ∧ (writeEffect i s).coming = s.coming ∧ (writeEffect i s).edges = s.edges := by
    by_cases h : s.phase = .idle
    · cases i <;> simp [writeEffect, commandWrite_of_idle _ h, raise, acceptAcq, acceptPoll, acceptSend, State.goto,
        State.startDelay, clearSticky]
    · cases i <;> simp [writeEffect, commandWrite_of_busy _ h, clearSticky]
  by_cases h : s.phase = .idle
  · simp [hostCycle, clockEdge_of_idle _ h, hw]
  · simp [hostCycle, clockEdge_of_busy _ h, hw]

/-- The next cycle's levels are the first of those to come, and the rest stay to come. -/
theorem tick_inputs {s : State} {p : Ports} {rest : List Ports} (h : s.coming = p :: rest) :
    s.tick.ports = p ∧ s.tick.coming = rest := by
  cases hr : s.ports.rst
  · have := (hostCycle_inputs s.presented s).2.1.trans h
    rw [tick_of_no_rst hr, State.nextCycle_cons this]; exact ⟨rfl, rfl⟩
  · have : s.resetEdge.coming = p :: rest := h
    rw [tick_of_rst hr, State.nextCycle_cons this]; exact ⟨rfl, rfl⟩

/-- The levels a run has fixed stand at the ports in their cycles, whatever the machine does. -/
theorem after_inputs (pre : List Ports) : ∀ (s : State) (rest : List Ports), s.coming = pre ++ rest →
    (s.after pre.length).coming = rest ∧ ∀ k (h : k < pre.length), (s.after (k + 1)).ports = pre[k] := by
  induction pre with
  | nil => intro s rest h; exact ⟨h, fun k h => absurd h (by simp)⟩
  | cons p pre ih =>
    intro s rest h
    obtain ⟨h1, h2⟩ := tick_inputs (s := s) (p := p) (rest := pre ++ rest) h
    obtain ⟨h3, h4⟩ := ih s.tick rest h2
    refine ⟨by rw [List.length_cons, State.after_succ']; exact h3, fun k hk => ?_⟩
    rw [State.after_succ']
    cases k with
    | zero => exact h1
    | succ k => exact h4 k (by simpa using hk)

end Sys2Proof.Machine
end

