-- ==== Sys2Proof/Laws/PerInstr.lean ====
section
/-! SUPPORT. Sys2Proof/Laws/PerInstr.lean: families of statements made once for each instruction. -/

namespace Sys2Proof.Laws.EncodeRow

/-- The instruction's word lies in its own row of the opcode map (30_encoding.md rule R83). -/
def Statement (i : Instr) : Prop :=
  i.wellFormed = true → ∃ r ∈ opcodeTable, r.mnemonic = i.mnemonic ∧ r.matches (encode i) = true

/-- An addressed row matches its words, whatever their data byte. -/
theorem addressed_matches (name : String) {we : Bool} {a : RegAddr} {m : Htw} (d : Byte) (h : htwOf we a 0#8 = m) :
    (OpcodeRow.mk name m 0x1F00#13).matches (htwOf we a d) = true := by
  simp [OpcodeRow.matches, htwOf_mask, h]

theorem rdCmd (xx : Byte) : Statement (.rdCmd xx) := fun _ =>
  ⟨⟨"RD_CMD", 0x0000#13, 0x1F00#13⟩, by decide, rfl, addressed_matches (we := false) (a := 0x0#4) _ xx (by decide)⟩

theorem rdStatus (xx : Byte) : Statement (.rdStatus xx) := fun _ =>
  ⟨⟨"RD_STATUS", 0x0100#13, 0x1F00#13⟩, by decide, rfl, addressed_matches (we := false) (a := 0x1#4) _ xx (by decide)⟩

theorem rdView (xx : Byte) : Statement (.rdView xx) := fun _ =>
  ⟨⟨"RD_VIEW", 0x0200#13, 0x1F00#13⟩, by decide, rfl, addressed_matches (we := false) (a := 0x2#4) _ xx (by decide)⟩

theorem rdB0 (xx : Byte) : Statement (.rdB0 xx) := fun _ =>
  ⟨⟨"RD_B0", 0x0300#13, 0x1F00#13⟩, by decide, rfl, addressed_matches (we := false) (a := 0x3#4) _ xx (by decide)⟩

theorem rdB1 (xx : Byte) : Statement (.rdB1 xx) := fun _ =>
  ⟨⟨"RD_B1", 0x0400#13, 0x1F00#13⟩, by decide, rfl, addressed_matches (we := false) (a := 0x4#4) _ xx (by decide)⟩

theorem rdB2 (xx : Byte) : Statement (.rdB2 xx) := fun _ =>
  ⟨⟨"RD_B2", 0x0500#13, 0x1F00#13⟩, by decide, rfl, addressed_matches (we := false) (a := 0x5#4) _ xx (by decide)⟩

theorem rdB3 (xx : Byte) : Statement (.rdB3 xx) := fun _ =>
  ⟨⟨"RD_B3", 0x0600#13, 0x1F00#13⟩, by decide, rfl, addressed_matches (we := false) (a := 0x6#4) _ xx (by decide)⟩

theorem rdB4 (xx : Byte) : Statement (.rdB4 xx) := fun _ =>
  ⟨⟨"RD_B4", 0x0700#13, 0x1F00#13⟩, by decide, rfl, addressed_matches (we := false) (a := 0x7#4) _ xx (by decide)⟩

theorem rdFtenLo (xx : Byte) : Statement (.rdFtenLo xx) := fun _ =>
  ⟨⟨"RD_FTEN_LO", 0x0800#13, 0x1F00#13⟩, by decide, rfl, addressed_matches (we := false) (a := 0x8#4) _ xx (by decide)⟩

theorem rdFtenHi (xx : Byte) : Statement (.rdFtenHi xx) := fun _ =>
  ⟨⟨"RD_FTEN_HI", 0x0900#13, 0x1F00#13⟩, by decide, rfl, addressed_matches (we := false) (a := 0x9#4) _ xx (by decide)⟩

theorem rdBusAddr (xx : Byte) : Statement (.rdBusAddr xx) := fun _ =>
  ⟨⟨"RD_BUS_ADDR", 0x0A00#13, 0x1F00#13⟩, by decide, rfl, addressed_matches (we := false) (a := 0xA#4) _ xx (by decide)⟩

theorem rdBusData (xx : Byte) : Statement (.rdBusData xx) := fun _ =>
  ⟨⟨"RD_BUS_DATA", 0x0B00#13, 0x1F00#13⟩, by decide, rfl, addressed_matches (we := false) (a := 0xB#4) _ xx (by decide)⟩

theorem rdNackCnt (xx : Byte) : Statement (.rdNackCnt xx) := fun _ =>
  ⟨⟨"RD_NACK_CNT", 0x0C00#13, 0x1F00#13⟩, by decide, rfl, addressed_matches (we := false) (a := 0xC#4) _ xx (by decide)⟩

theorem rdPhase (xx : Byte) : Statement (.rdPhase xx) := fun _ =>
  ⟨⟨"RD_PHASE", 0x0D00#13, 0x1F00#13⟩, by decide, rfl, addressed_matches (we := false) (a := 0xD#4) _ xx (by decide)⟩

theorem rdBitidx (xx : Byte) : Statement (.rdBitidx xx) := fun _ =>
  ⟨⟨"RD_BITIDX", 0x0E00#13, 0x1F00#13⟩, by decide, rfl, addressed_matches (we := false) (a := 0xE#4) _ xx (by decide)⟩

theorem rdRsvdF (xx : Byte) : Statement (.rdRsvdF xx) := fun _ =>
  ⟨⟨"RD_RSVD_F", 0x0F00#13, 0x1F00#13⟩, by decide, rfl, addressed_matches (we := false) (a := 0xF#4) _ xx (by decide)⟩

theorem nop : Statement .nop := fun _ => ⟨⟨"NOP", 0x1000#13, 0x1FFF#13⟩, by decide, rfl, by decide⟩

theorem acq : Statement .acq := fun _ => ⟨⟨"ACQ", 0x1001#13, 0x1FFF#13⟩, by decide, rfl, by decide⟩

theorem poll : Statement .poll := fun _ => ⟨⟨"POLL", 0x1002#13, 0x1FFF#13⟩, by decide, rfl, by decide⟩

theorem send : Statement .send := fun _ => ⟨⟨"SEND", 0x1003#13, 0x1FFF#13⟩, by decide, rfl, by decide⟩

theorem wrCmdRsvd04 (cmd : Byte) : Statement (.wrCmdRsvd04 cmd) := fun h =>
  ⟨⟨"WR_CMD__rsvd_0x04..0x07", 0x1004#13, 0x1FFC#13⟩, by decide, rfl, by revert cmd; decide⟩

theorem wrCmdRsvd08 (cmd : Byte) : Statement (.wrCmdRsvd08 cmd) := fun h =>
  ⟨⟨"WR_CMD__rsvd_0x08..0x0F", 0x1008#13, 0x1FF8#13⟩, by decide, rfl, by revert cmd; decide⟩

theorem wrCmdRsvd10 (cmd : Byte) : Statement (.wrCmdRsvd10 cmd) := fun h =>
  ⟨⟨"WR_CMD__rsvd_0x10..0x1F", 0x1010#13, 0x1FF0#13⟩, by decide, rfl, by revert cmd; decide⟩

theorem wrCmdRsvd20 (cmd : Byte) : Statement (.wrCmdRsvd20 cmd) := fun h =>
  ⟨⟨"WR_CMD__rsvd_0x20..0x3F", 0x1020#13, 0x1FE0#13⟩, by decide, rfl, by revert cmd; decide⟩

theorem wrCmdRsvd40 (cmd : Byte) : Statement (.wrCmdRsvd40 cmd) := fun h =>
  ⟨⟨"WR_CMD__rsvd_0x40..0x7F", 0x1040#13, 0x1FC0#13⟩, by decide, rfl, by revert cmd; decide⟩

theorem wrCmdRsvd80 (cmd : Byte) : Statement (.wrCmdRsvd80 cmd) := fun h =>
  ⟨⟨"WR_CMD__rsvd_0x80..0xFF", 0x1080#13, 0x1F80#13⟩, by decide, rfl, by revert cmd; decide⟩

theorem wrStatus (m : Byte) : Statement (.wrStatus m) := fun _ =>
  ⟨⟨"WR_STATUS__m", 0x1100#13, 0x1F00#13⟩, by decide, rfl, addressed_matches (we := true) (a := 0x1#4) _ m (by decide)⟩

theorem wrView (v : Byte) : Statement (.wrView v) := fun _ =>
  ⟨⟨"WR_VIEW__v", 0x1200#13, 0x1F00#13⟩, by decide, rfl, addressed_matches (we := true) (a := 0x2#4) _ v (by decide)⟩

theorem wrB0 (v : Byte) : Statement (.wrB0 v) := fun _ =>
  ⟨⟨"WR_B0__v", 0x1300#13, 0x1F00#13⟩, by decide, rfl, addressed_matches (we := true) (a := 0x3#4) _ v (by decide)⟩

theorem wrB1 (v : Byte) : Statement (.wrB1 v) := fun _ =>
  ⟨⟨"WR_B1__v", 0x1400#13, 0x1F00#13⟩, by decide, rfl, addressed_matches (we := true) (a := 0x4#4) _ v (by decide)⟩

theorem wrB2 (v : Byte) : Statement (.wrB2 v) := fun _ =>
  ⟨⟨"WR_B2__v", 0x1500#13, 0x1F00#13⟩, by decide, rfl, addressed_matches (we := true) (a := 0x5#4) _ v (by decide)⟩

theorem wrB3 (v : Byte) : Statement (.wrB3 v) := fun _ =>
  ⟨⟨"WR_B3__v", 0x1600#13, 0x1F00#13⟩, by decide, rfl, addressed_matches (we := true) (a := 0x6#4) _ v (by decide)⟩

theorem wrB4 (v : Byte) : Statement (.wrB4 v) := fun _ =>
  ⟨⟨"WR_B4__v", 0x1700#13, 0x1F00#13⟩, by decide, rfl, addressed_matches (we := true) (a := 0x7#4) _ v (by decide)⟩

theorem wrFtenLo (v : Byte) : Statement (.wrFtenLo v) := fun _ =>
  ⟨⟨"WR_FTEN_LO__v", 0x1800#13, 0x1F00#13⟩, by decide, rfl, addressed_matches (we := true) (a := 0x8#4) _ v (by decide)⟩

theorem wrFtenHi (v : Byte) : Statement (.wrFtenHi v) := fun _ =>
  ⟨⟨"WR_FTEN_HI__v", 0x1900#13, 0x1F00#13⟩, by decide, rfl, addressed_matches (we := true) (a := 0x9#4) _ v (by decide)⟩

theorem wrBusAddr (v : Byte) : Statement (.wrBusAddr v) := fun _ =>
  ⟨⟨"WR_BUS_ADDR__v", 0x1A00#13, 0x1F00#13⟩, by decide, rfl, addressed_matches (we := true) (a := 0xA#4) _ v (by decide)⟩

theorem wrBusData (v : Byte) : Statement (.wrBusData v) := fun _ =>
  ⟨⟨"WR_BUS_DATA__v", 0x1B00#13, 0x1F00#13⟩, by decide, rfl, addressed_matches (we := true) (a := 0xB#4) _ v (by decide)⟩

theorem wrNackCnt (v : Byte) : Statement (.wrNackCnt v) := fun _ =>
  ⟨⟨"WR_NACK_CNT__v", 0x1C00#13, 0x1F00#13⟩, by decide, rfl, addressed_matches (we := true) (a := 0xC#4) _ v (by decide)⟩

theorem wrPhase (v : Byte) : Statement (.wrPhase v) := fun _ =>
  ⟨⟨"WR_PHASE__v", 0x1D00#13, 0x1F00#13⟩, by decide, rfl, addressed_matches (we := true) (a := 0xD#4) _ v (by decide)⟩

theorem wrBitidx (v : Byte) : Statement (.wrBitidx v) := fun _ =>
  ⟨⟨"WR_BITIDX__v", 0x1E00#13, 0x1F00#13⟩, by decide, rfl, addressed_matches (we := true) (a := 0xE#4) _ v (by decide)⟩

theorem wrRsvdF (v : Byte) : Statement (.wrRsvdF v) := fun _ =>
  ⟨⟨"WR_RSVD_F__v", 0x1F00#13, 0x1F00#13⟩, by decide, rfl, addressed_matches (we := true) (a := 0xF#4) _ v (by decide)⟩

end Sys2Proof.Laws.EncodeRow
end

