-- ==== Sys2Proof/Tests/Slice0.lean ====
section
/-! SUPPORT. Sys2Proof/Tests/Slice0.lean: the model's own tests, and for every statement with hypotheses a witness that meets
them.  Expected results come from the tables of 30_encoding.md rule R83 and 10_state.md rule R44 and from the vectors of
95_test_vectors.md, which each test's comment names. -/

namespace Sys2Proof.Tests

open Sys2Proof Sys2Proof.Machine

/-! ### WellFormed: each check refuses an ill-formed term -/

theorem test_wf_rsvd04 : (Instr.wrCmdRsvd04 0x03#8).wellFormed = false ∧ (Instr.wrCmdRsvd04 0x08#8).wellFormed = false := by
  decide
theorem test_wf_rsvd08 : (Instr.wrCmdRsvd08 0x07#8).wellFormed = false ∧ (Instr.wrCmdRsvd08 0x10#8).wellFormed = false := by
  decide
theorem test_wf_rsvd10 : (Instr.wrCmdRsvd10 0x0F#8).wellFormed = false ∧ (Instr.wrCmdRsvd10 0x20#8).wellFormed = false := by
  decide
theorem test_wf_rsvd20 : (Instr.wrCmdRsvd20 0x1F#8).wellFormed = false ∧ (Instr.wrCmdRsvd20 0x40#8).wellFormed = false := by
  decide
theorem test_wf_rsvd40 : (Instr.wrCmdRsvd40 0x3F#8).wellFormed = false ∧ (Instr.wrCmdRsvd40 0x80#8).wellFormed = false := by
  decide
theorem test_wf_rsvd80 : (Instr.wrCmdRsvd80 0x7F#8).wellFormed = false := by decide

/-! ### Decoding: the words of R83, bit by bit (we, addr[3:0], data[7:0]) -/

/-- `RD <reg>`, match `a << 8`, mask 0x1F00. -/
theorem test_decode_reads :
    decode 0b0000000000000#13 = .rdCmd 0b00000000#8 ∧ decode 0b0000100000001#13 = .rdStatus 0b00000001#8 ∧
    decode 0b0001000000010#13 = .rdView 0b00000010#8 ∧ decode 0b0001100000100#13 = .rdB0 0b00000100#8 ∧
    decode 0b0010000001000#13 = .rdB1 0b00001000#8 ∧ decode 0b0010100010000#13 = .rdB2 0b00010000#8 ∧
    decode 0b0011000100000#13 = .rdB3 0b00100000#8 ∧ decode 0b0011101000000#13 = .rdB4 0b01000000#8 ∧
    decode 0b0100010000000#13 = .rdFtenLo 0b10000000#8 ∧ decode 0b0100111111111#13 = .rdFtenHi 0b11111111#8 ∧
    decode 0b0101010101010#13 = .rdBusAddr 0b10101010#8 ∧ decode 0b0101101010101#13 = .rdBusData 0b01010101#8 ∧
    decode 0b0110000000000#13 = .rdNackCnt 0b00000000#8 ∧ decode 0b0110100000000#13 = .rdPhase 0b00000000#8 ∧
    decode 0b0111000000000#13 = .rdBitidx 0b00000000#8 ∧ decode 0b0111100000000#13 = .rdRsvdF 0b00000000#8 := by
  decide

/-- The four commands, 0x1000 to 0x1003. -/
theorem test_decode_commands :
    decode 0b1000000000000#13 = .nop ∧ decode 0b1000000000001#13 = .acq ∧ decode 0b1000000000010#13 = .poll ∧
    decode 0b1000000000011#13 = .send := by
  decide

/-- The reserved opcodes, each range at both ends. -/
theorem test_decode_reserved :
    decode 0b1000000000100#13 = .wrCmdRsvd04 0b00000100#8 ∧ decode 0b1000000000111#13 = .wrCmdRsvd04 0b00000111#8 ∧
    decode 0b1000000001000#13 = .wrCmdRsvd08 0b00001000#8 ∧ decode 0b1000000001111#13 = .wrCmdRsvd08 0b00001111#8 ∧
    decode 0b1000000010000#13 = .wrCmdRsvd10 0b00010000#8 ∧ decode 0b1000000011111#13 = .wrCmdRsvd10 0b00011111#8 ∧
    decode 0b1000000100000#13 = .wrCmdRsvd20 0b00100000#8 ∧ decode 0b1000000111111#13 = .wrCmdRsvd20 0b00111111#8 ∧
    decode 0b1000001000000#13 = .wrCmdRsvd40 0b01000000#8 ∧ decode 0b1000001111111#13 = .wrCmdRsvd40 0b01111111#8 ∧
    decode 0b1000010000000#13 = .wrCmdRsvd80 0b10000000#8 ∧ decode 0b1000011111111#13 = .wrCmdRsvd80 0b11111111#8 := by
  decide

/-- The other writes, addresses 0x1 to 0xF. -/
theorem test_decode_writes :
    decode 0b1000100100000#13 = .wrStatus 0b00100000#8 ∧ decode 0b1001000000011#13 = .wrView 0b00000011#8 ∧
    decode 0b1001100010001#13 = .wrB0 0b00010001#8 ∧ decode 0b1010000000000#13 = .wrB1 0b00000000#8 ∧
    decode 0b1010100000001#13 = .wrB2 0b00000001#8 ∧ decode 0b1011010000000#13 = .wrB3 0b10000000#8 ∧
    decode 0b1011111111111#13 = .wrB4 0b11111111#8 ∧ decode 0b1100000000000#13 = .wrFtenLo 0b00000000#8 ∧
    decode 0b1100101010101#13 = .wrFtenHi 0b01010101#8 ∧ decode 0b1101010100111#13 = .wrBusAddr 0b10100111#8 ∧
    decode 0b1101100101000#13 = .wrBusData 0b00101000#8 ∧ decode 0b1110000000101#13 = .wrNackCnt 0b00000101#8 ∧
    decode 0b1110100010000#13 = .wrPhase 0b00010000#8 ∧ decode 0b1111000101000#13 = .wrBitidx 0b00101000#8 ∧
    decode 0b1111111111111#13 = .wrRsvdF 0b11111111#8 := by
  decide

/-- Bytes and table words: two bytes, bits [7:0] first; a bit above bit 12 and a missing byte are refused by name. -/
theorem test_decode_bytes :
    decodeBytes [0xA7#8, 0x1A#8, 0x00#8] = .ok (.wrBusAddr 0xA7#8, [0x00#8]) ∧
    decodeBytes [0x00#8, 0x20#8] = .error .bitsAboveHtw ∧ decodeBytes [0x00#8] = .error .tooFewBytes ∧
    decodeTableWord 16 0x1AA7 = some (.wrBusAddr 0xA7#8) ∧ decodeTableWord 16 0x2000 = none := by
  decide

/-- The pseudo-instructions: `SEND 0x27, 0x28` is 0x1A27, 0x1B28, 0x1003 (section 2.5); `CLR 0x40` is 0x1140 (P4); `CLRCNT` is
0x1C00 (P3); `WAITIDLE` reads STATUS, 0x0100, again while bit 0 is 1. -/
theorem test_pseudo :
    (pseudoSend 0x27#7 0x28#8).map encode = [0x1A27#13, 0x1B28#13, 0x1003#13] ∧ encode (pseudoClr 0x40#8) = 0x1140#13 ∧
    encode pseudoClrCnt = 0x1C00#13 ∧ encode pseudoWaitIdleTurn = 0x0100#13 ∧ pseudoWaitIdleRepeats 0x41#8 = true ∧
    pseudoWaitIdleRepeats 0x46#8 = false := by
  decide

/-! ### Small states -/

/-- Inputs at rest: sensor line high, buttons released, controller ready, the host reading CMD. -/
def quiet : Ports := ⟨false, false, 0, 0, true, true, true, true, false, false, false⟩

/-- The vectors' parameters: `T_START_CYC = 3`, `T_SAMPLE_CYC = 2`, `T_DEB_CYC = 2`, `CNT_W = 2`. -/
def small : Params := ⟨1000000, 3, 2, 2, 2, 0, 0⟩

/-- The state from reset with the inputs at rest, for the eight cycles to come as well. -/
def rest : State := { State.reset with params := small, ports := quiet, coming := List.replicate 8 quiet }

/-- The state in a phase, with its `op`. -/
def at_ (p : Phase) (op : BitVec 2) (cnt : Nat := 0) : State := { rest with phase := p, op := op, cnt := cnt }

/-- The level of the synchronised sensor line. -/
def withLine (b : Bool) (s : State) : State := { s with dqSync := ⟨b, b⟩ }

/-- Reads one value of the state an instruction answers. -/
def view? {α : Type} (f : State → α) (o : Host.Outcome State Fault Refusal) : Option α :=
  match o with
  | .next t => some (f t)
  | .fault _ => none
  | .refused _ => none

/-! ### One step each -/

/-- V-HI-1: reads from reset. -/
theorem test_reads_from_reset :
    view? State.rdata (exec (.rdCmd 0) rest) = some 0x00#8 ∧ view? State.rdata (exec (.rdStatus 0) rest) = some 0x00#8 ∧
    view? State.rdata (exec (.rdView 0) rest) = some 0x00#8 ∧ view? State.rdata (exec (.rdFtenLo 0) rest) = some 0x40#8 ∧
    view? State.rdata (exec (.rdFtenHi 0) rest) = some 0x01#8 ∧ view? State.rdata (exec (.rdNackCnt 0) rest) = some 0x00#8 ∧
    view? State.rdata (exec (.rdPhase 0) rest) = some 0x00#8 ∧ view? State.rdata (exec (.rdRsvdF 0) rest) = some 0x00#8 := by
  decide

/-- V-FD-2: the registers after the frame [45, 0, 23, 0, 68] (0x2D00170044). -/
def framed : State := { rest with sr := 0x2D00170044#40, bitidx := 40, frameRdy := true, op := 1 }

theorem test_reads_of_frame :
    view? State.rdata (exec (.rdB0 0) framed) = some 0x2D#8 ∧ view? State.rdata (exec (.rdB1 0) framed) = some 0x00#8 ∧
    view? State.rdata (exec (.rdB2 0) framed) = some 0x17#8 ∧ view? State.rdata (exec (.rdB3 0) framed) = some 0x00#8 ∧
    view? State.rdata (exec (.rdB4 0) framed) = some 0x44#8 ∧ view? State.rdata (exec (.rdFtenLo 0) framed) = some 0xDE#8 ∧
    view? State.rdata (exec (.rdFtenHi 0) framed) = some 0x02#8 ∧ view? State.rdata (exec (.rdBitidx 0) framed) = some 0x28#8 ∧
    view? State.rdata (exec (.rdStatus 0) framed) = some 0x06#8 := by
  decide

/-- V-CV-2, V-CV-5, V-CV-7, V-CV-8: STATUS after frames that fail and pass the law. -/
theorem test_checksum :
    ({ framed with sr := 0x2D00170045#40 }).status = 0x02#8 ∧ ({ framed with sr := 0xFF01000000#40 }).status = 0x06#8 ∧
    ({ framed with sr := 0xFFFFFFFFFC#40 }).status = 0x06#8 ∧ ({ framed with sr := 0xFFFFFFFFFD#40 }).status = 0x02#8 ∧
    ({ framed with sr := 0x2D00170045#40 }).checksumMismatch = true ∧ framed.checksumMismatch = false := by
  decide

/-- V-FT-4, V-FT-5: FTENTHS for B2 = 100 and 255. -/
theorem test_ftenths :
    ({ framed with sr := 0x0000640000#40 }).ftenths = 2120#16 ∧ ({ framed with sr := 0x0000FF0000#40 }).ftenths = 4910#16 := by
  decide

/-- V-HI-2, V-HI-3, V-HI-4: a reserved opcode in IDLE sets ILL (STATUS 0x20) and starts nothing. -/
theorem test_reserved_idle :
    view? State.status (exec (.wrCmdRsvd80 0xFF) rest) = some 0x20#8 ∧ view? State.phase (exec (.wrCmdRsvd80 0xFF) rest) = some .idle ∧
    view? State.status (exec (.wrCmdRsvd04 0x05) rest) = some 0x20#8 ∧
    view? State.status (exec (.wrCmdRsvd08 0x08) { rest with ill := true }) = some 0x20#8 ∧
    view? State.status (exec (.wrCmdRsvd10 0x10) rest) = some 0x20#8 ∧ view? State.status (exec (.wrCmdRsvd20 0x20) rest) = some 0x20#8 ∧
    view? State.status (exec (.wrCmdRsvd40 0x40) rest) = some 0x20#8 := by
  decide

/-- R217 (b): a reserved opcode while BUSY sets OVR and not ILL. -/
theorem test_reserved_busy : view? State.status (exec (.wrCmdRsvd80 0x80) (at_ .fAckLow 1)) = some 0x41#8 := by decide

/-- V-HI-5, V-HI-6: NOP in IDLE, and in F_START (PHASE stays 0x10). -/
theorem test_nop :
    view? State.status (exec .nop rest) = some 0x00#8 ∧ view? State.op (exec .nop framed) = some 1#2 ∧
    view? State.status (exec .nop (at_ .fStart 1 2)) = some 0x41#8 ∧ view? State.phase (exec .nop (at_ .fStart 1 2)) = some .fStart := by
  decide

/-- V-FD-1 cycle 0, V-FD-12: ACQ's acceptance. -/
theorem test_acq :
    view? State.phase (exec .acq framed) = some .fStart ∧ view? State.cnt (exec .acq framed) = some 2 ∧
    view? State.status (exec .acq framed) = some 0x01#8 ∧ view? State.sr (exec .acq framed) = some 0#40 ∧
    view? State.bitidx (exec .acq framed) = some 0#6 := by
  decide

/-- V-HI-7: a command in POLL's last cycle is an overrun and starts nothing. -/
theorem test_poll :
    view? State.phase (exec .poll rest) = some .vCheck ∧ view? State.op (exec .poll rest) = some 2#2 ∧
    view? State.phase (exec .acq (at_ .vCheck 2)) = some .idle ∧ view? State.status (exec .acq (at_ .vCheck 2)) = some 0x40#8 := by
  decide

/-- V-BT-10: SEND's acceptance latches the operands and clears NACK; the count stays. -/
theorem test_send :
    view? State.phase (exec .send { rest with busAddr := 0x27, busData := 0x41, busNack := true, nackCnt := 1 }) = some .tAddr ∧
    view? State.btAddr (exec .send { rest with busAddr := 0x27, busData := 0x41 }) = some 0x27#7 ∧
    view? State.btData (exec .send { rest with busAddr := 0x27, busData := 0x41 }) = some 0x41#8 ∧
    view? State.status (exec .send { rest with busNack := true, nackCnt := 1 }) = some 0x01#8 ∧
    view? State.nackCnt (exec .send { rest with busNack := true, nackCnt := 1 }) = some 1#8 := by
  decide

/-- V-HI-9, V-HI-10: STATUS 0x70, masks 0x20, 0x0F and 0xFF. -/
theorem test_wr_status :
    view? State.status (exec (.wrStatus 0x20) { rest with viewChg := true, ill := true, ovr := true }) = some 0x50#8 ∧
    view? State.status (exec (.wrStatus 0x0F) { rest with viewChg := true, ill := true, ovr := true }) = some 0x70#8 ∧
    view? State.status (exec (.wrStatus 0xFF) { rest with viewChg := true, ill := true, ovr := true }) = some 0x00#8 := by
  decide

/-- R217 (c): the set of VIEW_CHG wins over the clear at the same edge. -/
theorem test_wr_status_at_view_change :
    view? State.viewChg (exec (.wrStatus 0x10) { at_ .vFdeb 2 with viewChg := true }) = some true := by
  decide

/-- V-HI-11, V-HI-12: BUS_ADDR drops bit 7; BUS_DATA; V-BT-6: a write in T_WTX1 leaves the latched byte. -/
theorem test_wr_bus :
    view? (readVal .busAddr) (exec (.wrBusAddr 0xA7) rest) = some 0x27#8 ∧
    view? (readVal .busData) (exec (.wrBusData 0xFF) rest) = some 0xFF#8 ∧
    view? State.btData (exec (.wrBusData 0x99) { at_ .tWtx1 3 with btData := 0x28 }) = some 0x28#8 := by
  decide

/-- A counter of 2 bits, loaded for the shortest and the longest delay it fits (R12). -/
theorem test_cnt_load : cntLoad 2 1 = 0 ∧ cntLoad 2 4 = 3 := by decide

/-- V-HI-13, V-BT-4: NACK_CNT is cleared whatever the data; a `Nack` at the same edge leaves 1. -/
theorem test_wr_nack_cnt :
    view? State.nackCnt (exec (.wrNackCnt 0x05) { rest with nackCnt := 3 }) = some 0#8 ∧
    view? State.nackCnt (exec (.wrNackCnt 0x00) { at_ .tNwstp 3 with nackCnt := 7 }) = some 1#8 := by
  decide

/-- V-BT-5: 255 saturates. -/
theorem test_nack_saturates :
    view? State.nackCnt (exec (.rdStatus 0) { at_ .tNwstp 3 with nackCnt := 255 }) = some 255#8 ∧
    view? State.nackCnt (exec (.rdStatus 0) { at_ .tNwstp 3 with nackCnt := 254 }) = some 255#8 ∧
    view? State.status (exec (.rdStatus 0) (at_ .tNwstp 3)) = some 0x08#8 := by
  decide

/-- V-HI-14: writes to read-only registers. -/
theorem test_ignored_writes :
    view? (readVal .view) (exec (.wrView 0x03) rest) = some 0x00#8 ∧ view? (readVal .b0) (exec (.wrB0 0x11) rest) = some 0x00#8 ∧
    view? (readVal .ftenLo) (exec (.wrFtenLo 0x00) rest) = some 0x40#8 ∧ view? (readVal .phase) (exec (.wrPhase 0x10) rest) = some 0x00#8 ∧
    view? (readVal .bitidx) (exec (.wrBitidx 0x28) rest) = some 0x00#8 ∧ view? (readVal .rsvdF) (exec (.wrRsvdF 0xFF) rest) = some 0x00#8 ∧
    view? State.status (exec (.wrB4 0xFF) rest) = some 0x00#8 := by
  decide

/-- V-FD-1 cycles 20, 32 and 34: the sample of a 0 and of a 1, most significant bit first, and the fall. -/
theorem test_sample :
    view? State.sr (exec (.rdStatus 0) (withLine false (at_ .fSample 1))) = some 0#40 ∧
    view? State.sr (exec (.rdStatus 0) { withLine true (at_ .fSample 1) with bitidx := 2 }) = some 1#40 ∧
    view? State.bitidx (exec (.rdStatus 0) { withLine true (at_ .fSample 1) with bitidx := 2 }) = some 3#6 ∧
    view? State.phase (exec (.rdStatus 0) { withLine false (at_ .fFall 1) with bitidx := 3 }) = some .fRiseLow ∧
    view? State.phase (exec (.rdStatus 0) (withLine true (at_ .fFall 1))) = some .fFall := by
  decide

/-- V-FD-1, the ACQ's end: F_FALL with `bitidx = 40`. -/
theorem test_acq_end :
    view? State.status (exec (.rdStatus 0) { withLine false (at_ .fFall 1) with bitidx := 40, sr := 0x2D00170044#40 }) = some 0x06#8 := by
  decide

/-- V-FD-8, V-FD-9: the waits with no sensor and with a stuck line. -/
theorem test_ack_waits :
    view? State.phase (exec (.rdStatus 0) (withLine true (at_ .fAckLow 1))) = some .fAckLow ∧
    view? State.phase (exec (.rdStatus 0) (withLine false (at_ .fAckRel 1))) = some .fAckRel ∧
    view? State.phase (exec (.rdStatus 0) (withLine true (at_ .fAckRel 1))) = some .fAckLow := by
  decide

/-- SRC-4: the view steps, at the wrap both ways; V-VS-1: VIEW_CHG. -/
theorem test_view_steps :
    view? State.view (exec (.rdStatus 0) { at_ .vFdeb 2 with view := 3 }) = some 0#2 ∧
    view? State.view (exec (.rdStatus 0) (at_ .vBdeb 2)) = some 3#2 ∧
    view? State.status (exec (.rdStatus 0) (at_ .vFdeb 2)) = some 0x11#8 ∧
    view? State.phase (exec (.rdStatus 0) (at_ .vFdeb 2 1)) = some .vFdeb := by
  decide

/-- R201 (a): both buttons pressed, forward is taken. -/
theorem test_check_priority :
    view? State.phase (exec (.rdStatus 0) { at_ .vCheck 2 with fwdSync := ⟨false, false⟩, bwdSync := ⟨false, false⟩ }) = some .vFdeb ∧
    view? State.phase (exec (.rdStatus 0) { at_ .vCheck 2 with bwdSync := ⟨false, false⟩ }) = some .vBdeb := by
  decide

/-- V-BT-1, V-BT-2: the outputs of SEND's phases, and T_WSTT's exit both ways. -/
theorem test_send_outputs :
    ({ at_ .tAddr 3 with btAddr := 0x27 }).bcSa = 0x27#7 ∧ (at_ .tAddr 3).bcSaWe = true ∧ (at_ .tStart 3).bcStartW = true ∧
    ({ at_ .tWr 3 with btData := 0x28 }).bcTxData = 0x28#8 ∧ (at_ .tWr 3).bcTxWe = true ∧ (at_ .tNstop 3).bcStop = true ∧
    (at_ .tStop 3).bcStop = true ∧ (at_ .tWstp 3).bcStop = false ∧
    view? State.phase (exec (.rdStatus 0) { at_ .tWstt 3 with ports := { quiet with bcNack := true } }) = some .tNstop ∧
    view? State.phase (exec (.rdStatus 0) { at_ .tWstt 3 with ports := { quiet with bcStt := true, bcNack := true } }) = some .tWstt ∧
    view? State.phase (exec (.rdStatus 0) (at_ .tWstt 3)) = some .tWtx2 := by
  decide

/-- R217 (a): reset overrides a command at the same edge. -/
theorem test_reset_overrides :
    view? State.phase (step { rest with ports := { quiet with rst := true, hWe := true, hWdata := 0x01 } }) = some .idle ∧
    view? State.op (step { rest with ports := { quiet with rst := true, hWe := true, hWdata := 0x01 } }) = some 0#2 := by
  decide

/-- The word placed on the port is what the next step carries out, from the reset state: ACQ, 0x1001. -/
theorem test_with_fetch_word : view? State.phase (step (State.reset.withFetchWord 16 0x1001)) = some .fStart := by decide

/-! ### Witnesses: for every statement with hypotheses, states and operands that meet them

`quiet` with a transaction, or with one level changed, is written out where it is used; a run's inputs stand in `coming`. -/

/-- Write the byte `v` to CMD. -/
def cmd (v : Byte) : Ports := { quiet with hWe := true, hWdata := v }

/-- The sensor line at a level. -/
def dq (b : Bool) : Ports := { quiet with dqIn := b }

/-- A state whose input levels, in this cycle and those to come, are the list's. -/
def play (ps : List Ports) (s : State) : State :=
  match ps with
  | [] => s
  | p :: rest => { s with ports := p, coming := rest }

/-- The levels played stand at the ports in their cycles. -/
theorem play_ports (p : Ports) (ps : List Ports) (s : State) (k : Nat) (h : k < (p :: ps).length) :
    ((play (p :: ps) s).after k).ports = (p :: ps)[k] := by
  cases k with
  | zero => rfl
  | succ k =>
    exact (after_inputs ps (play (p :: ps) s) [] (by simp [play])).2 k (by simpa using h)

/-- Every state of the next `n` cycles, and the one after them, passes a check. -/
def along (c : State → Bool) : Nat → State → Bool
  | 0, s => c s
  | n + 1, s => c s && along c n s.tick

theorem along_after (c : State → Bool) (n : Nat) : ∀ s, along c n s = true → ∀ k ≤ n, c (s.after k) = true := by
  induction n with
  | zero =>
    intro s h k hk
    obtain rfl : k = 0 := by omega
    exact h
  | succ n ih =>
    intro s h k hk
    rw [along, Bool.and_eq_true] at h
    cases k with
    | zero => exact h.1
    | succ k => rw [State.after_succ']; exact ih _ h.2 k (by omega)

/-- Busy with no reset. -/
def running (s : State) : Bool := !s.ports.rst && s.busy

/-- A run from a state in which every cycle is busy, without a reset, and the last is idle. -/
theorem run_hyps {s : State} {n : Nat} (h : along running n s = true) :
    s.NoReset (n + 1) ∧ ∀ k < n + 1, (s.after k).phase ≠ .idle := by
  have a := along_after running n s h
  refine ⟨fun k hk => ?_, fun k hk => ?_⟩
  · have := a k (by omega); simp [running] at this; exact this.1
  · have := a k (by omega); simp [running, State.busy] at this; exact this.2

theorem witness_DecodeOfEncode :
    (Instr.wrCmdRsvd04 0x04).wellFormed = true ∧ (Instr.wrCmdRsvd04 0x07).wellFormed = true ∧
    (Instr.wrCmdRsvd08 0x08).wellFormed = true ∧ (Instr.wrCmdRsvd08 0x0F).wellFormed = true ∧
    (Instr.wrCmdRsvd10 0x10).wellFormed = true ∧ (Instr.wrCmdRsvd10 0x1F).wellFormed = true ∧
    (Instr.wrCmdRsvd20 0x20).wellFormed = true ∧ (Instr.wrCmdRsvd20 0x3F).wellFormed = true ∧
    (Instr.wrCmdRsvd40 0x40).wellFormed = true ∧ (Instr.wrCmdRsvd40 0x7F).wellFormed = true ∧
    (Instr.wrCmdRsvd80 0x80).wellFormed = true ∧ (Instr.wrCmdRsvd80 0xFF).wellFormed = true ∧
    (Instr.rdCmd 0xFF).wellFormed = true ∧ (Instr.wrStatus 0xFF).wellFormed = true ∧ Instr.send.wellFormed = true := by
  decide

/-- Reset held for one cycle, then low with ACQ at the port. -/
def resetThenAcq : State := play [{ quiet with rst := true }, cmd 0x01] (at_ .fDelay 1 1)

/-- An edge with `rst` low and one with `rst` high, each with levels to come and with none. -/
theorem witness_StepCarriesOutThePresentedInstruction :
    (rest.ports.rst = false ∧ rest.coming = quiet :: List.replicate 7 quiet ∧ ({ rest with coming := [] }).coming = []) ∧
    (resetThenAcq.ports.rst = true ∧ resetThenAcq.coming = [cmd 0x01] ∧ ({ resetThenAcq with coming := [] }).coming = []) := by
  decide

theorem witness_ResetEdgeLoadsEveryRegister : resetThenAcq.ports.rst = true := by decide

theorem witness_AfterResetTheMapReadsItsResetColumn :
    resetThenAcq.ports.rst = true ∧ resetThenAcq.tick.ports.rst = false ∧ resetThenAcq.tick.presented = .acq := by
  decide

theorem witness_OutputsFollowThePhaseAndReset : rest.ports.rst = false ∧ resetThenAcq.ports.rst = true := by decide

theorem witness_ReadsHaveNoSideEffect :
    (Instr.rdCmd 0x00).we = false ∧ (Instr.rdRsvdF 0xFF).we = false ∧ rest.phase = .idle := by
  decide

theorem witness_HostTakesTheByteBeforeTheEdge : rest.ports.rst = false := by decide

theorem witness_NopChangesNothingWhenIdle : rest.phase = .idle ∧ (at_ .fStart 1).phase ≠ .idle := by decide

theorem witness_CommandWriteWhileBusyIsAnOverrun :
    Instr.poll.we = true ∧ Instr.poll.reg = .cmd ∧ (Instr.wrCmdRsvd80 0xFF).we = true ∧ (Instr.wrCmdRsvd80 0xFF).reg = .cmd ∧
    (at_ .fStart 1).phase ≠ .idle ∧ (at_ .tWstp 3).phase ≠ .idle := by
  decide

theorem witness_ReservedOpcodeSetsIllWhenIdle :
    rest.phase = .idle ∧ (at_ .vCheck 2).phase ≠ .idle ∧ 0x04 ≤ (0x04#8).toNat ∧ 0x04 ≤ (0xFF#8).toNat := by
  decide

theorem witness_WritesToReadOnlyRegistersAreIgnored :
    ∀ a ∈ [0x2#4, 0x9#4, 0xD#4, 0xF#4], (2 ≤ a.toNat ∧ a.toNat ≤ 9) ∨ 13 ≤ a.toNat := by
  decide

theorem witness_AcqAcceptanceStartsTheStartPulse : framed.phase = .idle ∧ framed.params.DelaysFit := by decide
theorem witness_PollAcceptanceGoesToTheCheck : framed.phase = .idle := by decide
theorem witness_SendAcceptanceLatchesTheOperands : ({ rest with busAddr := 0x7F, busNack := true }).phase = .idle := by decide

theorem witness_AcknowledgePhasesFollowTheLine :
    (at_ .fAckRel 1).phase = .fAckRel ∧ (at_ .fAckLow 1).phase = .fAckLow ∧ (at_ .fAckHigh 1).phase = .fAckHigh := by
  decide

theorem witness_RisePhasesFollowTheLine :
    (at_ .fRiseLow 1).phase = .fRiseLow ∧
    ((withLine true (at_ .fRiseHigh 1)).phase = .fRiseHigh ∧ (withLine true (at_ .fRiseHigh 1)).dqSync.stage1 = true) ∧
    (withLine false (at_ .fRiseHigh 1)).dqSync.stage1 = false ∧ (at_ .fRiseHigh 1).params.DelaysFit ∧
    ((at_ .fDelay 1 0).phase = .fDelay ∧ (at_ .fDelay 1 0).cnt = 0) ∧ (at_ .fDelay 1 1).cnt ≠ 0 := by
  decide

theorem witness_SamplePhaseShiftsTheLineIn : ({ at_ .fSample 1 with bitidx := 39 }).phase = .fSample := by decide

theorem witness_FallPhaseEndsTheSlotOrTheFrame :
    (withLine true (at_ .fFall 1)).phase = .fFall ∧ (withLine true (at_ .fFall 1)).dqSync.stage1 = true ∧
    ({ withLine false (at_ .fFall 1) with bitidx := 40 }).dqSync.stage1 = false ∧
    ({ withLine false (at_ .fFall 1) with bitidx := 40 }).bitidx.toNat = 40 ∧
    ({ withLine false (at_ .fFall 1) with bitidx := 39 }).bitidx.toNat ≠ 40 := by
  decide

theorem witness_FahrenheitIsExact : rest.sr = 0 := by decide

theorem witness_CheckPhaseTakesForwardFirst :
    (at_ .vCheck 2).params.DelaysFit ∧ (at_ .vCheck 2).phase = .vCheck ∧ (at_ .vCheck 2).fwdSync.stage1 = true ∧ (at_ .vCheck 2).bwdSync.stage1 = true ∧
    ({ at_ .vCheck 2 with fwdSync := ⟨false, false⟩ }).fwdSync.stage1 = false ∧
    ({ at_ .vCheck 2 with bwdSync := ⟨false, false⟩ }).fwdSync.stage1 = true ∧
    ({ at_ .vCheck 2 with bwdSync := ⟨false, false⟩ }).bwdSync.stage1 = false := by
  decide

theorem witness_DebouncePhasesMoveTheView :
    ((at_ .vFdeb 2).phase = .vFdeb ∧ (at_ .vFdeb 2).cnt = 0) ∧ ((at_ .vBdeb 2).phase = .vBdeb ∧ (at_ .vBdeb 2).cnt = 0) ∧
    (at_ .vFdeb 2 1).cnt ≠ 0 ∧ (at_ .vBdeb 2 1).cnt ≠ 0 := by
  decide

theorem witness_ReleasePhasesWaitForTheButton : (at_ .vFrel 2).phase = .vFrel ∧ (at_ .vBrel 2).phase = .vBrel := by decide

theorem witness_StrobePhasesLastOneCycle :
    rest.ports.rst = false ∧ (at_ .tAddr 3).phase = .tAddr ∧ (at_ .tStart 3).phase = .tStart ∧ (at_ .tWr 3).phase = .tWr ∧
    (at_ .tNstop 3).phase = .tNstop ∧ (at_ .tStop 3).phase = .tStop := by
  decide

theorem witness_BusWaitsFollowTheFlags :
    (at_ .tWtx1 3).phase = .tWtx1 ∧ (at_ .tWtx2 3).phase = .tWtx2 ∧ (at_ .tWstt 3).phase = .tWstt ∧
    ((at_ .tWtx2 3).phase.inBt = true ∧ ¬ ((at_ .tWtx2 3).phase = .tWstt ∧ (at_ .tWtx2 3).ports.bcStt = false)) := by
  decide

/-- The controller's stop condition in progress. -/
def stopping (s : State) : State := { s with ports := { quiet with bcStp := true } }

theorem witness_SendCompletionRecordsTheResult :
    ((at_ .tNwstp 3).phase = .tNwstp ∧ (at_ .tNwstp 3).ports.bcStp = false ∧ ∀ v, Instr.rdStatus 0 ≠ .wrNackCnt v) ∧
    ((stopping (at_ .tNwstp 3)).phase = .tNwstp ∧ (stopping (at_ .tNwstp 3)).ports.bcStp = true) ∧
    ((at_ .tWstp 3).phase = .tWstp ∧ (at_ .tWstp 3).ports.bcStp = false) ∧
    ((stopping (at_ .tWstp 3)).phase = .tWstp ∧ (stopping (at_ .tWstp 3)).ports.bcStp = true) ∧
    ((at_ .tAddr 3).phase.inBt = true ∧ ¬ ((at_ .tAddr 3).phase = .tNwstp ∧ (at_ .tAddr 3).ports.bcStp = false)) := by
  refine ⟨⟨rfl, rfl, fun v h => by cases h⟩, ?_⟩
  decide

/-- Each flag cleared and each flag set: a state before the setting edge and one before the clearing edge. -/
theorem witness_StickyFlagsHaveOneSetterAndOneClearer :
    ((at_ .vFdeb 2).viewChg = false ∧ (at_ .vFdeb 2).tick.viewChg = true) ∧
    ((play [cmd 0x04] rest).ill = false ∧ (play [cmd 0x04] rest).tick.ill = true) ∧
    ((play [cmd 0x00] (at_ .tAddr 3)).ovr = false ∧ (play [cmd 0x00] (at_ .tAddr 3)).tick.ovr = true) ∧
    (let s := { rest with viewChg := true, ill := true, ovr := true,
                          ports := { quiet with hWe := true, hAddr := 1, hWdata := 0x70 } }
     s.tick.viewChg = false ∧ s.tick.ill = false ∧ s.tick.ovr = false) := by
  decide

theorem witness_NackIsReadOnlyAtStartCompletion :
    ¬ ((at_ .tWtx2 3).phase = .tWstt ∧ (at_ .tWtx2 3).ports.bcStt = false) := by
  decide

theorem witness_LineIsTheInputTwoEdgesEarlier : rest.NoReset 2 := by decide

/-- A state in the middle of an ACQ. -/
theorem witness_StepKeepsTheInvariant :
    ({ at_ .fRiseHigh 1 with bitidx := 3, sr := 5 }).Inv ∧ ∃ t, step { at_ .fRiseHigh 1 with bitidx := 3, sr := 5 } = .next t := by
  refine ⟨?_, _, step_of_no_rst (by decide)⟩
  constructor <;> decide

theorem witness_ResetEstablishesTheInvariant : resetThenAcq.params.DelaysFit ∧ resetThenAcq.ports.rst = true := by decide

/-- ACQ at the port, with a start pulse of `2^CNT_W = 4` cycles at `f` Hz. -/
def startRun (f : Nat) : State :=
  play (cmd 0x01 :: List.replicate 4 quiet) { rest with params := { small with fClk := f, tStartCyc := 4 } }

/-- At 222 Hz four cycles last 18 ms, at 223 Hz they do not. -/
theorem witness_StartPulseLastsExactly :
    (∀ f ∈ [222, 223],
      (startRun f).phase = .idle ∧ (startRun f).presented = .acq ∧ (startRun f).params.DelaysFit ∧
      (startRun f).NoReset ((startRun f).params.tStartCyc + 1)) ∧
    (startRun 222).params.StartPulseLongEnough ∧ ¬ (startRun 223).params.StartPulseLongEnough := by
  decide

theorem witness_SampleComesAFixedTimeAfterTheRise :
    (withLine true (at_ .fRiseHigh 1)).phase = .fRiseHigh ∧ (withLine true (at_ .fRiseHigh 1)).dqSync.line = true ∧
    (withLine true (at_ .fRiseHigh 1)).params.DelaysFit ∧ (withLine true (at_ .fRiseHigh 1)).NoReset (rest.params.tSampleCyc + 1) := by
  decide

/-- V_CHECK with the forward button pressed. -/
def fwdPressed : State := { at_ .vCheck 2 with fwdSync := ⟨false, false⟩ }

/-- V_CHECK with the backward button pressed. -/
def bwdPressed : State := { at_ .vCheck 2 with bwdSync := ⟨false, false⟩ }

theorem witness_PressIsActedOnAfterTheDebounce :
    (fwdPressed.phase = .vCheck ∧ fwdPressed.params.DelaysFit ∧ fwdPressed.NoReset 3 ∧ fwdPressed.fwdSync.line = false) ∧
    (bwdPressed.phase = .vCheck ∧ bwdPressed.params.DelaysFit ∧ bwdPressed.NoReset 3 ∧ bwdPressed.fwdSync.line = true ∧ bwdPressed.bwdSync.line = false) ∧
    ((at_ .vCheck 2).params.DelaysFit ∧ (at_ .vCheck 2).NoReset 3 ∧ (at_ .vCheck 2).fwdSync.line = true ∧ (at_ .vCheck 2).bwdSync.line = true) := by
  decide

/-- A POLL with the forward button, one with the backward button, and one with none, each to its end. -/
theorem witness_PollMovesTheViewAtMostOnce :
    (fwdPressed.phase = .vCheck ∧ fwdPressed.NoReset 4 ∧ (∀ k < 4, (fwdPressed.after k).phase ≠ .idle) ∧
      (fwdPressed.after 4).phase = .idle ∧ (fwdPressed.after 3).view ≠ fwdPressed.view) ∧
    (bwdPressed.phase = .vCheck ∧ bwdPressed.NoReset 4 ∧ (∀ k < 4, (bwdPressed.after k).phase ≠ .idle) ∧
      (bwdPressed.after 4).phase = .idle) ∧
    ((at_ .vCheck 2).NoReset 1 ∧ (∀ k < 1, ((at_ .vCheck 2).after k).phase ≠ .idle) ∧ ((at_ .vCheck 2).after 1).phase = .idle) := by
  decide

/-- V-FD-8 and V-BT-8: F_ACK_LOW with the line high, T_WTX1 with the controller not ready. -/
theorem witness_WaitLastsUntilItsCondition :
    ((withLine true (at_ .fAckLow 1)).NoReset 3 ∧ ∀ k < 3, ((withLine true (at_ .fAckLow 1)).after k).held = true) ∧
    ((play (List.replicate 4 { quiet with bcTxrdy := false }) (at_ .tWtx1 3)).NoReset 3 ∧
      ∀ k < 3, ((play (List.replicate 4 { quiet with bcTxrdy := false }) (at_ .tWtx1 3)).after k).held = true) := by
  decide

/-- An ACQ from its acceptance, with `T_SAMPLE_CYC = 1` and 41 slots of a low of 3 and a high of 2. -/
def acqRun : State :=
  play (cmd 0x01 :: [dq false, quiet, quiet, dq false, dq false, dq false, quiet, quiet, quiet] ++
      (List.replicate 41 [dq false, dq false, dq false, dq true, dq true]).flatten)
    { rest with params := ⟨1000000, 1, 1, 1, 1, 0, 0⟩ }

set_option maxRecDepth 20000 in
theorem acqRun_busy : along running 207 acqRun.tick = true ∧ (acqRun.after 209).phase = .idle := by decide

/-- The whole ACQ of 208 cycles, to its end. -/
theorem witness_BitsAreAssembledMostSignificantFirst :
    acqRun.phase = .idle ∧ acqRun.presented = .acq ∧ acqRun.NoReset 209 ∧
    (∀ k, 1 ≤ k → k < 209 → (acqRun.after k).phase ≠ .idle) ∧ (acqRun.after 209).phase = .idle := by
  obtain ⟨h1, h2⟩ := run_hyps acqRun_busy.1
  refine ⟨by decide, by decide, fun k hk => ?_, fun k hk1 hk => ?_, acqRun_busy.2⟩
  · cases k with
    | zero => rfl
    | succ k => rw [State.after_succ']; exact h1 k (by omega)
  · cases k with
    | zero => omega
    | succ k => rw [State.after_succ']; exact h2 k (by omega)

/-- A wait for the rise, with the line's levels `j` times low, then `h` times high, then low: the first two already in the
synchroniser, the rest still to come at the port. -/
def pulse (j h f : Nat) : State :=
  let levels := List.replicate j false ++ List.replicate h true ++ List.replicate 8 false
  play ((levels.drop 2).map dq)
    { at_ .fRiseHigh 1 with
      dqSync := ⟨levels.getD 1 false, levels.getD 0 false⟩
      params := { small with fClk := f } }

/-- The widths on both sides of the bound, `T_SAMPLE_CYC + 1 = 3` and `T_SAMPLE_CYC + 2 = 4`; a rise seen at once, one in the
synchroniser, and one at the port. -/
theorem witness_PulseWidthDecidesTheBit :
    ∀ j ∈ [0, 1, 2], ∀ h ∈ [1, 3, 4],
      (pulse j h 100000).phase = .fRiseHigh ∧ (pulse j h 100000).params.DelaysFit ∧ (pulse j h 100000).NoReset (j + 2 + 2) ∧
      (∀ k < j, (pulse j h 100000).dqAhead k = false) ∧ (∀ k < j + h, j ≤ k → (pulse j h 100000).dqAhead k = true) ∧
      (∀ k < j + 2 + 2, j + h ≤ k → (pulse j h 100000).dqAhead k = false) := by
  decide

/-- Example classes with the sample point between them: a 0 of at most 28 us, a 1 of at least 70 us, at 100 kHz.  A phase of 28 us
can cover 3 edges and one of 70 us 7. -/
theorem witness_PulseWidthDecidesTheBit_time :
    (pulse 0 3 100000).params.Discriminates 28000 70000 ∧
    (3 * 1000000000 ≤ 28000 * 100000 + 1000000000 ∧ 28000 * 100000 ≤ (3 + 1) * 1000000000 ∧ 28000 ≤ 28000) ∧
    (7 * 1000000000 ≤ 70000 * 100000 + 1000000000 ∧ 70000 * 100000 ≤ (7 + 1) * 1000000000 ∧ 70000 ≤ 70000) := by
  decide

/-- A wave that keeps the contract for `T_SAMPLE_CYC = 2`: 20 ones of width 4, then 20 zeros of width 3. -/
def wave : SensorWave := ⟨1, 2, 3, 3, List.replicate 20 ⟨true, 3, 4⟩ ++ List.replicate 20 ⟨false, 3, 3⟩, 3⟩

theorem wave_keeps : wave.Keeps 2 := by
  refine ⟨by decide, by decide, by decide, by decide, by decide, ?_⟩
  simp [wave, pulsesKeep, List.replicate]

/-- Levels played on the sensor line stand there in their cycles, and the registers are as before. -/
theorem play_levels (ls : List Bool) (s : State) :
    ((play (ls.map dq) s).phase = s.phase ∧ (play (ls.map dq) s).dqSync = s.dqSync ∧ (play (ls.map dq) s).sr = s.sr ∧
      (play (ls.map dq) s).bitidx = s.bitidx ∧ (play (ls.map dq) s).params = s.params) ∧
    ∀ k (h : k < ls.length), ((play (ls.map dq) s).after k).ports = dq ls[k] := by
  cases ls with
  | nil => exact ⟨⟨rfl, rfl, rfl, rfl, rfl⟩, fun k h => absurd h (by simp)⟩
  | cons l ls =>
    refine ⟨⟨rfl, rfl, rfl, rfl, rfl⟩, fun k h => ?_⟩
    have := play_ports (dq l) (ls.map dq) s k (by simpa using h)
    rw [List.map_cons, this]
    cases k <;> simp

/-- Any wave on the sensor line, after F_START. -/
def waveRun (w : SensorWave) : State := play ((w.levels ++ [true]).map dq) (withLine false (at_ .fAckRel 1))

/-- What the run of a wave that keeps the contract meets. -/
theorem waveRun_hyps (w : SensorWave) :
    ((waveRun w).phase = .fAckRel ∧ (waveRun w).dqSync = ⟨false, false⟩ ∧ (waveRun w).sr = 0 ∧ (waveRun w).bitidx = 0 ∧
      (waveRun w).params = small) ∧ (waveRun w).NoReset (w.levels.length + 1) ∧
    (∀ k < w.levels.length, some ((waveRun w).after k).ports.dqIn = w.levels[k]?) := by
  obtain ⟨h, hp⟩ := play_levels (w.levels ++ [true]) (withLine false (at_ .fAckRel 1))
  refine ⟨h, fun k hk => ?_, fun k hk => ?_⟩
  · rw [waveRun, hp k (by simpa using hk)]; rfl
  · rw [waveRun, hp k (by rw [List.length_append]; omega), List.getElem?_eq_getElem hk, List.getElem_append_left hk]; rfl

theorem witness_ContractWaveformIsReceived :
    ((waveRun wave).phase = .fAckRel ∧ (waveRun wave).dqSync = ⟨false, false⟩ ∧ (waveRun wave).sr = 0 ∧ (waveRun wave).bitidx = 0 ∧
      (waveRun wave).params = small) ∧
    small.DelaysFit ∧ wave.Keeps small.tSampleCyc ∧ (waveRun wave).NoReset (wave.levels.length + 1) ∧
    (∀ k < wave.levels.length, some ((waveRun wave).after k).ports.dqIn = wave.levels[k]?) :=
  ⟨(waveRun_hyps wave).1, by decide, wave_keeps, (waveRun_hyps wave).2⟩

/-- SEND, acknowledged, with a controller that is ready at once. -/
def sendRun : State := play (List.replicate 10 quiet) (at_ .tAddr 3)

/-- SEND, not acknowledged. -/
def nackRun : State := play (List.replicate 10 { quiet with bcNack := true }) (at_ .tAddr 3)

theorem witness_CompletedSendGaveOneStop :
    (sendRun.phase = .tAddr ∧ sendRun.NoReset 8 ∧ (∀ k < 8, (sendRun.after k).phase ≠ .idle) ∧ (sendRun.after 8).phase = .idle) ∧
    (nackRun.phase = .tAddr ∧ nackRun.NoReset 7 ∧ (∀ k < 7, (nackRun.after k).phase ≠ .idle) ∧ (nackRun.after 7).phase = .idle) := by
  decide

theorem witness_RunningSendKeepsItsOperands :
    (play (cmd 0x03 :: List.replicate 9 quiet) rest).phase = .idle ∧
    (play (cmd 0x03 :: List.replicate 9 quiet) rest).presented = .send ∧
    (play (cmd 0x03 :: List.replicate 9 quiet) rest).NoReset 9 ∧
    (∀ k < 9, 1 ≤ k → ((play (cmd 0x03 :: List.replicate 9 quiet) rest).after k).phase ≠ .idle) := by
  decide

/-- T_NSTOP and T_STOP, with a stop condition that lasts two cycles. -/
def stopRun (p : Phase) : State := play [quiet, { quiet with bcStp := true }, { quiet with bcStp := true }, quiet] (at_ p 3)

theorem witness_StopIsSeenInProgress :
    ∀ p ∈ [Phase.tNstop, Phase.tStop],
      ((stopRun p).phase = .tNstop ∨ (stopRun p).phase = .tStop) ∧ (stopRun p).NoReset 2 ∧ (stopRun p).ControllerKeeps := by
  intro p hp
  simp only [List.mem_cons, List.not_mem_nil, or_false] at hp
  obtain rfl | rfl := hp <;> exact ⟨by decide, by decide, by decide, by decide, by decide, by decide, by decide, by decide⟩

end Sys2Proof.Tests
end

section
/-! PROOFS of the statements of 00_scope.md: a step carries out the presented instruction, brings the next cycle's inputs, and
always answers a next state. -/

namespace Sys2Proof.Machine

/-- With no levels left to come, a free draw comes to the ports. -/
theorem State.nextCycle_nil {s : State} (h : s.coming = []) :
    s.nextCycle = { s with ports := Config.drawPorts (s.edges + 1), edges := s.edges + 1 } := by
  simp only [State.nextCycle, h]

/-- With `rst` low, a step carries out the instruction at the register port. -/
theorem step_eq_afterEdge_exec {s : State} (h : s.ports.rst = false) : step s = afterEdge (exec s.presented s) := by
  simp [step, h, State.presented]

/-- Every step, on reset edges too, makes its edge and then passes to the next cycle; the edge itself leaves the levels to come
and the edge count alone. -/
theorem step_eq_nextCycle (s : State) :
    ∃ u : State, step s = .next u.nextCycle ∧ u.coming = s.coming ∧ u.edges = s.edges := by
  cases hr : s.ports.rst with
  | true => exact ⟨s.resetEdge, step_of_rst hr, s.resetEdge_coming, s.resetEdge_edges⟩
  | false =>
    obtain ⟨-, hcoming, hedges⟩ := hostCycle_inputs s.presented s
    exact ⟨_, step_of_no_rst hr, hcoming, hedges⟩

/-- Settles O5: each clause is the law of its operation; the last one holds because the edge before the passage to the next
cycle leaves the inputs alone. -/
theorem stepCarriesOutThePresentedInstruction : Obligations.StepCarriesOutThePresentedInstruction := by
  refine ⟨fun s hr => step_eq_afterEdge_exec hr, fun t p rest h => State.nextCycle_cons h, fun t h => State.nextCycle_nil h,
    fun s => ?_⟩
  obtain ⟨u, hstep, hcoming, hedges⟩ := step_eq_nextCycle s
  refine ⟨u.nextCycle, hstep, by rw [u.nextCycle_edges, hedges], fun p rest h => ?_, fun h => ?_⟩
  · rw [State.nextCycle_cons (hcoming.trans h)]
    exact ⟨rfl, rfl⟩
  · have hnil : u.coming = [] := hcoming.trans h
    rw [State.nextCycle_nil hnil, hedges]
    exact ⟨rfl, hnil⟩

/-- Settles O6: every instruction's meaning is one host cycle, and every step passes to a next cycle. -/
theorem everyStepAnswersANextState : Obligations.EveryStepAnswersANextState := by
  intro s
  obtain ⟨u, hstep, -, -⟩ := step_eq_nextCycle s
  exact ⟨⟨u.nextCycle, hstep⟩, fun i => ⟨_, exec_eq i s⟩⟩

end Sys2Proof.Machine
end

section
/-! LAWS for the statements of 10_state.md: what the host's write can do and what the sequencer's step can do, each as a list of
cases with their conditions, and every field of the state one cycle later. -/

namespace Sys2Proof

/-- A `WR CMD` word decodes into the row whose range holds its opcode. -/
theorem decodeCommand_wellFormed (c : Byte) : (decodeCommand c).wellFormed = true := by
  unfold decodeCommand
  repeat' split
  case isFalse.isFalse.isFalse.isFalse.isTrue h0 h1 h2 h3 h =>
    have h4 : 4 ≤ c.toNat := by bv_omega
    simp only [Instr.wellFormed, Bool.and_eq_true, decide_eq_true_eq]
    omega
  all_goals
    simp only [Instr.wellFormed, Bool.and_eq_true, decide_eq_true_eq]
  all_goals omega

/-- Every word decodes into a well-formed instruction (30_encoding.md rule R81). -/
theorem decode_wellFormed (h : Htw) : (decode h).wellFormed = true := by
  unfold decode
  split
  · cases Reg.ofAddr h.addr
    case cmd => exact decodeCommand_wellFormed h.data
    all_goals rfl
  · cases Reg.ofAddr h.addr <;> rfl

end Sys2Proof

namespace Sys2Proof.Machine

/-! ### The host's write -/

/-- What the host's write can make of the state before the edge, by the instruction presented. -/
inductive HostWrite (s : State) : Instr → State → Prop
  /-- reads, ignored writes, and `NOP` while idle (R101, R104, R111) -/
  | nothing (i : Instr) : HostWrite s i s
  /-- a write to CMD while BUSY (R105) -/
  | overrun {i : Instr} (busy : s.phase ≠ .idle) (we : i.we = true) (reg : i.reg = .cmd) :
      HostWrite s i { s with ovr := true }
  /-- a reserved opcode while idle (R106) -/
  | reserved {i : Instr} (idle : s.phase = .idle) (we : i.we = true) (reg : i.reg = .cmd) (opcode : 4 ≤ i.data.toNat) :
      HostWrite s i { s with ill := true }
  | acq (idle : s.phase = .idle) : HostWrite s .acq (acceptAcq { s with op := 1 })
  | poll (idle : s.phase = .idle) : HostWrite s .poll (acceptPoll { s with op := 2 })
  | send (idle : s.phase = .idle) : HostWrite s .send (acceptSend { s with op := 3 })
  | status (m : Byte) : HostWrite s (.wrStatus m) (clearSticky m s)
  | busAddr (v : Byte) : HostWrite s (.wrBusAddr v) { s with busAddr := busAddrOperand v }
  | busData (v : Byte) : HostWrite s (.wrBusData v) { s with busData := v }
  | nackCnt (v : Byte) : HostWrite s (.wrNackCnt v) { s with nackCnt := 0 }

/-- A write to CMD is an overrun while BUSY and the opcode's effect while idle (40_host_interface.md rule R103). -/
theorem HostWrite.command {i : Instr} {s : State} {f : State → State} (we : i.we = true) (reg : i.reg = .cmd)
    (whenIdle : s.phase = .idle → HostWrite s i (f s)) : HostWrite s i (commandWrite f s) := by
  by_cases h : s.phase = .idle
  · rw [commandWrite_of_idle f h]; exact whenIdle h
  · rw [commandWrite_of_busy f h]; exact .overrun h we reg

/-- The write of every well-formed instruction is one of these cases. -/
theorem hostWrite_writeEffect (i : Instr) (hi : i.wellFormed = true) (s : State) : HostWrite s i (writeEffect i s) := by
  cases i
  case nop => exact .command rfl rfl fun _ => .nothing _
  case acq => exact .command (f := fun t => acceptAcq { t with op := 1 }) rfl rfl .acq
  case poll => exact .command (f := fun t => acceptPoll { t with op := 2 }) rfl rfl .poll
  case send => exact .command (f := fun t => acceptSend { t with op := 3 }) rfl rfl .send
  case wrStatus m => exact .status m
  case wrBusAddr v => exact .busAddr v
  case wrBusData v => exact .busData v
  case wrNackCnt v => exact .nackCnt v
  case wrCmdRsvd04 | wrCmdRsvd08 | wrCmdRsvd10 | wrCmdRsvd20 | wrCmdRsvd40 | wrCmdRsvd80 =>
    refine .command rfl rfl fun idle => .reserved idle rfl rfl ?_
    simp only [Instr.wellFormed, Bool.and_eq_true, decide_eq_true_eq] at hi
    simp only [Instr.data]
    omega
  all_goals exact .nothing _

/-- The write of the instruction at the register port. -/
theorem hostWrite_presented (s : State) : HostWrite s s.presented (writeEffect s.presented s) :=
  hostWrite_writeEffect _ (decode_wellFormed _) s

/-- No write touches the input levels, the synchronisers and the parameters. -/
theorem HostWrite.inputs {s w : State} {i : Instr} (h : HostWrite s i w) :
    w.dqSync = s.dqSync ∧ w.fwdSync = s.fwdSync ∧ w.bwdSync = s.bwdSync ∧ w.ports = s.ports ∧ w.params = s.params := by
  cases h <;> exact ⟨rfl, rfl, rfl, rfl, rfl⟩

/-- While BUSY no write touches the phase and the counter. -/
theorem HostWrite.sequencing {s w : State} {i : Instr} (h : HostWrite s i w) (busy : s.phase ≠ .idle) :
    w.phase = s.phase ∧ w.cnt = s.cnt := by
  cases h
  case acq idle | poll idle | send idle => exact absurd idle busy
  all_goals exact ⟨rfl, rfl⟩

/-! ### The sequencer's step -/

/-- What the sequencer's step can make of a state: it moves `phase` and `cnt` only, or it ends one of the six cycles that write
a command's results. -/
inductive SequencerMove (s : State) : State → Prop
  | control (p : Phase) (c : Nat) : SequencerMove s { s with phase := p, cnt := c }
  /-- F_SAMPLE (R157) -/
  | sample (phase : s.phase = .fSample) : SequencerMove s (fSample s)
  /-- F_FALL after the 40th bit (R158) -/
  | frameDone (phase : s.phase = .fFall) (low : s.dqSync.stage1 = false) (all : s.bitidx.toNat = 40) :
      SequencerMove s (acqDone s)
  /-- the end of V_FDEB (R194) -/
  | forward (phase : s.phase = .vFdeb) (last : s.cnt = 0) :
      SequencerMove s (({ s with view := viewForward s.view, viewChg := true }).goto .vFrel)
  /-- the end of V_BDEB (R196) -/
  | backward (phase : s.phase = .vBdeb) (last : s.cnt = 0) :
      SequencerMove s (({ s with view := viewBackward s.view, viewChg := true }).goto .vBrel)
  /-- the `Nack` completion (R134, R135) -/
  | nack (phase : s.phase = .tNwstp) (stopped : s.ports.bcStp = false) :
      SequencerMove s ((raise .busNack s).goto .idle)
  /-- the success completion (R134) -/
  | success (phase : s.phase = .tWstp) (stopped : s.ports.bcStp = false) :
      SequencerMove s (({ s with busNack := false }).goto .idle)

/-- A wait phase stays while its condition fails, and takes its exit when it holds (00_scope.md rule R12). -/
theorem waitFor_induct {P : State → Prop} {cond : Bool} {exit : State → State} {s : State} (stay : P s)
    (leave : cond = true → P (exit s)) : P (waitFor cond exit s) := by
  cases cond
  · exact stay
  · exact leave rfl

/-- A delay phase counts down, and takes its exit at 0 (00_scope.md rule R12). -/
theorem delay_induct {P : State → Prop} {exit : State → State} {s : State} (count : P { s with cnt := s.cnt - 1 })
    (leave : s.cnt = 0 → P (exit s)) : P (delay exit s) := by
  by_cases h : s.cnt = 0
  · rw [delay_of_cnt_zero exit h]; exact leave h
  · rw [delay_of_cnt_pos exit h]; exact count

/-- A phase that waits and then only moves on. -/
theorem SequencerMove.wait {s : State} (cond : Bool) (p : Phase) : SequencerMove s (waitFor cond (State.goto p) s) :=
  waitFor_induct (.control s.phase s.cnt) fun _ => .control p s.cnt

/-- A delay phase that only moves on at its end. -/
theorem SequencerMove.delay {s : State} (p : Phase) : SequencerMove s (delay (State.goto p) s) :=
  delay_induct (.control s.phase (s.cnt - 1)) fun _ => .control p s.cnt

/-- The reading of the buttons. -/
theorem SequencerMove.buttons {s : State} : SequencerMove s (vCheck s) := by
  unfold vCheck
  split
  · exact .control .vFdeb _
  · split
    · exact .control .vBdeb _
    · exact .control .idle s.cnt

/-- The sequencer's step is one of these moves. -/
theorem sequencerMove_sequencerStep (s : State) : SequencerMove s (sequencerStep s) := by
  unfold sequencerStep
  cases hp : s.phase
  case idle => exact .control s.phase s.cnt
  case fAckRel | fAckLow | fAckHigh | fRiseLow | vFrel | vBrel | tWtx1 | tWtx2 => exact .wait _ _
  case fStart | fDelay => exact .delay _
  case tAddr | tStart | tWr | tNstop | tStop => exact .control _ s.cnt
  case fRiseHigh => exact waitFor_induct (.control s.phase s.cnt) fun _ => .control .fDelay _
  case fSample => exact .sample hp
  case fFall =>
    refine waitFor_induct (.control s.phase s.cnt) fun low => ?_
    split
    · next all => exact .frameDone hp (by simpa [SyncChain.line] using low) all
    · exact .control .fRiseLow s.cnt
  case vCheck => exact .buttons
  case vFdeb => exact delay_induct (.control s.phase _) fun last => .forward hp last
  case vBdeb => exact delay_induct (.control s.phase _) fun last => .backward hp last
  case tWstt =>
    refine waitFor_induct (.control s.phase s.cnt) fun _ => ?_
    split
    · exact .control .tNstop s.cnt
    · exact .control .tWtx2 s.cnt
  case tNwstp => exact waitFor_induct (.control s.phase s.cnt) fun stopped => .nack hp (by simpa using stopped)
  case tWstp => exact waitFor_induct (.control s.phase s.cnt) fun stopped => .success hp (by simpa using stopped)

/-- Only the ends of the debounce phases move the view (10_state.md rule R32). -/
theorem SequencerMove.view {s u : State} (h : SequencerMove s u) :
    u.view = s.view ∨ (s.phase = .vFdeb ∧ s.cnt = 0 ∧ u.view = viewForward s.view) ∨
      (s.phase = .vBdeb ∧ s.cnt = 0 ∧ u.view = viewBackward s.view) := by
  cases h
  case forward phase last => exact .inr (.inl ⟨phase, last, rfl⟩)
  case backward phase last => exact .inr (.inr ⟨phase, last, rfl⟩)
  all_goals exact .inl rfl

/-- Only a sample moves the frame's bits and their number (10_state.md rules R27 and R28). -/
theorem SequencerMove.frame {s u : State} (h : SequencerMove s u) :
    (u.sr = s.sr ∧ u.bitidx = s.bitidx) ∨ s.phase = .fSample := by
  cases h
  case sample phase => exact .inr phase
  all_goals exact .inl ⟨rfl, rfl⟩

/-- Only the fall after the 40th bit makes the frame ready (10_state.md rule R31). -/
theorem SequencerMove.frameRdy {s u : State} (h : SequencerMove s u) :
    u.frameRdy = s.frameRdy ∨ (s.phase = .fFall ∧ s.bitidx.toNat = 40 ∧ s.dqSync.stage1 = false) := by
  cases h
  case frameDone phase low all => exact .inr ⟨phase, all, low⟩
  all_goals exact .inl rfl

/-- Only a SEND's end writes its result (10_state.md rule R36). -/
theorem SequencerMove.busNack {s u : State} (h : SequencerMove s u) :
    u.busNack = s.busNack ∨ (s.phase = .tNwstp ∧ s.ports.bcStp = false) ∨
      (s.phase = .tWstp ∧ s.ports.bcStp = false) := by
  cases h
  case nack phase stopped => exact .inr (.inl ⟨phase, stopped⟩)
  case success phase stopped => exact .inr (.inr ⟨phase, stopped⟩)
  all_goals exact .inl rfl

/-! ### One cycle of a run, field by field -/

/-- Every step answers the state of the next cycle. -/
theorem step_eq_tick (s : State) : step s = .next s.tick := by
  obtain ⟨u, hstep, -, -⟩ := step_eq_nextCycle s
  simp [State.tick, hstep]

section tick

variable {s : State} (hr : s.ports.rst = false)
include hr

/-- With `rst` low and no command running, the next cycle's state is what the host's write leaves, but for the inputs, the
synchronisers and the byte read. -/
theorem tick_of_idle (h : s.phase = .idle) :
    s.tick = ({ (writeEffect s.presented s).sampleInputs with rdata := readVal s.presented.reg s }).nextCycle := by
  rw [tick_of_no_rst hr, hostCycle, clockEdge_of_idle _ h]

theorem tick_bitidx_of_idle (h : s.phase = .idle) : s.tick.bitidx = (writeEffect s.presented s).bitidx := by
  simp [tick_of_idle hr h]
theorem tick_sr_of_idle (h : s.phase = .idle) : s.tick.sr = (writeEffect s.presented s).sr := by
  simp [tick_of_idle hr h]
theorem tick_frameRdy_of_idle (h : s.phase = .idle) : s.tick.frameRdy = (writeEffect s.presented s).frameRdy := by
  simp [tick_of_idle hr h]
theorem tick_view_of_idle (h : s.phase = .idle) : s.tick.view = (writeEffect s.presented s).view := by
  simp [tick_of_idle hr h]
theorem tick_busNack_of_idle (h : s.phase = .idle) : s.tick.busNack = (writeEffect s.presented s).busNack := by
  simp [tick_of_idle hr h]

/-- A field the sequencer's step leaves alone is what the host's write leaves there, in any phase. -/
theorem tick_eq_writeEffect {α : Type} (f : State → α) (hseq : ∀ u, f (sequencerStep u) = f u)
    (hedge : ∀ u r, f ({ u.sampleInputs with rdata := r }).nextCycle = f u) : f s.tick = f (writeEffect s.presented s) := by
  by_cases h : s.phase = .idle
  · rw [tick_of_idle hr h, hedge]
  · rw [tick_of_no_rst hr, hostCycle, clockEdge_of_busy _ h, hedge, hseq]

theorem tick_op : s.tick.op = (writeEffect s.presented s).op := tick_eq_writeEffect hr State.op (by simp) (by simp)
theorem tick_ill : s.tick.ill = (writeEffect s.presented s).ill := tick_eq_writeEffect hr State.ill (by simp) (by simp)
theorem tick_ovr : s.tick.ovr = (writeEffect s.presented s).ovr := tick_eq_writeEffect hr State.ovr (by simp) (by simp)
theorem tick_busAddr : s.tick.busAddr = (writeEffect s.presented s).busAddr :=
  tick_eq_writeEffect hr State.busAddr (by simp) (by simp)
theorem tick_busData : s.tick.busData = (writeEffect s.presented s).busData :=
  tick_eq_writeEffect hr State.busData (by simp) (by simp)
theorem tick_btAddr : s.tick.btAddr = (writeEffect s.presented s).btAddr :=
  tick_eq_writeEffect hr State.btAddr (by simp) (by simp)
theorem tick_btData : s.tick.btData = (writeEffect s.presented s).btData :=
  tick_eq_writeEffect hr State.btData (by simp) (by simp)

end tick

end Sys2Proof.Machine
end

section
/-! PROOF of the state's invariant (10_state.md): the reset edge establishes it, and the host's write, the sequencer's step and
the passage to the next cycle keep it. -/

namespace Sys2Proof.Machine

/-! ### Moves of the phase and the counter -/

/-- A move of the phase from `p` to `q` inside the running command, or to IDLE, after which what the invariant says by the
phase still holds with the same registers: an ACQ enters a slot from its handshake or from the slot itself, and F_FALL only
with a sample. -/
abbrev Phase.LeadsTo (p q : Phase) : Prop :=
  (q.inFd = true → p.inFd = true) ∧ (q.inVs = true → p.inVs = true) ∧ (q.inBt = true → p.inBt = true) ∧
  (q.inHandshake = true → p.inHandshake = true) ∧
  (q.beforeSample = true → p.beforeSample = true ∨ p.inHandshake = true) ∧ q ≠ .fFall

namespace State.Inv

variable {s : State}

/-- The invariant after a move of the phase and the counter, with the counter within its width and below the new phase's
delay. -/
theorem move (h : s.Inv) {p q : Phase} {c : Nat} (hp : s.phase = p) (hpq : p.LeadsTo q) (hfits : c < 2 ^ s.params.cntW)
    (hbelow : ∀ n, q.delayLength s.params = some n → c < n) : ({ s with phase := q, cnt := c } : State).Inv := by
  subst hp
  obtain ⟨hfd, hvs, hbt, hhand, hslot, hfall⟩ := hpq
  exact {
    delaysFit := h.delaysFit
    cntFits := hfits
    cntBelow := hbelow
    bitidxBound := h.bitidxBound
    handshakeEmpty := fun hq => h.handshakeEmpty (hhand hq)
    slotNumbered := fun hq => by
      rcases hslot hq with hs | hs
      · exact h.slotNumbered hs
      · show s.bitidx.toNat < 40
        rw [h.handshakeEmpty hs]; decide
    fallSampled := fun hq => absurd hq hfall
    srAligned := h.srAligned
    readyComplete := h.readyComplete
    acqNotReady := fun hq => h.acqNotReady (hfd hq)
    opFd := fun hq => h.opFd (hfd hq)
    opVs := fun hq => h.opVs (hvs hq)
    opBt := fun hq => h.opBt (hbt hq)
    sendNotNacked := fun hq => h.sendNotNacked (hbt hq)
    freshUntouched := h.freshUntouched }

/-- A move to a phase without a delay. -/
theorem goto (h : s.Inv) {p q : Phase} (hp : s.phase = p) (hpq : p.LeadsTo q)
    (hq : q.delayLength s.params = none) : (s.goto q).Inv :=
  h.move hp hpq h.cntFits (by simp [hq])

/-- A move to a delay phase, which loads the counter with a value below the delay's length (00_scope.md rule R12). -/
theorem startDelay (h : s.Inv) {p q : Phase} {n : Nat} (hp : s.phase = p) (hpq : p.LeadsTo q)
    (hq : q.delayLength s.params = some n) (hpos : 1 ≤ n) (hle : n ≤ 2 ^ s.params.cntW) : (s.startDelay n q).Inv := by
  refine h.move hp hpq (cntLoad_lt _ _) fun m hm => ?_
  obtain rfl : n = m := Option.some.inj (hq.symm.trans hm)
  rw [cntLoad_eq hpos hle]
  omega

/-- One cycle of a wait. -/
theorem waitFor (h : s.Inv) {cond : Bool} {exit : State → State} (hexit : (exit s).Inv) : (waitFor cond exit s).Inv :=
  waitFor_induct h fun _ => hexit

/-- One cycle of a delay. -/
theorem delay (h : s.Inv) {exit : State → State} (hexit : (exit s).Inv) : (delay exit s).Inv :=
  delay_induct
    { h with
      cntFits := Nat.lt_of_le_of_lt (Nat.sub_le _ _) h.cntFits
      cntBelow := fun n hn => Nat.lt_of_le_of_lt (Nat.sub_le _ _) (h.cntBelow n hn) }
    fun _ => hexit

end State.Inv

/-! ### The reset edge -/

/-- A reset edge leaves every register at a value the invariant allows (70_reset_and_hazards.md rule R230). -/
theorem State.resetEdge_inv (s : State) (hfit : s.params.DelaysFit) : s.resetEdge.Inv where
  delaysFit := hfit
  cntFits := Nat.two_pow_pos _
  cntBelow := nofun
  bitidxBound := Nat.zero_le _
  handshakeEmpty := nofun
  slotNumbered := nofun
  fallSampled := nofun
  srAligned := (by decide : (0 : Frame).toNat < 2 ^ (0 : BitVec 6).toNat)
  readyComplete := nofun
  acqNotReady := nofun
  opFd := nofun
  opVs := nofun
  opBt := nofun
  sendNotNacked := nofun
  freshUntouched := fun _ => ⟨rfl, rfl, rfl, rfl, rfl, rfl, rfl⟩

/-! ### The kind of the running command -/

/-- Every phase but IDLE belongs to one of the three units (10_state.md rule R23). -/
theorem Phase.unit_of_ne_idle {p : Phase} (h : p ≠ .idle) : p.inFd = true ∨ p.inVs = true ∨ p.inBt = true := by
  revert h; cases p <;> decide

namespace State.Inv

variable {s : State}

/-- A running command has been accepted (10_state.md rule R25). -/
theorem op_ne_zero_of_busy (h : s.Inv) (busy : s.phase ≠ .idle) : s.op ≠ 0 := by
  rcases Phase.unit_of_ne_idle busy with hu | hu | hu
  · rw [h.opFd hu]; decide
  · rw [h.opVs hu]; decide
  · rw [h.opBt hu]; decide

/-! ### Registers outside the sequencing -/

/-- Once a command has been accepted, the registers of the view, of the flags, of the count and of the operands are free, and so
is the last SEND's result while none runs. -/
theorem withResults (h : s.Inv) (hop : s.op ≠ 0) (v : BitVec 2) (vc il ov bn : Bool) (nc : Byte) (ba : BusAddr) (bd : Byte)
    (hbn : s.phase.inBt = true → bn = false) :
    ({ s with view := v, viewChg := vc, ill := il, ovr := ov, busNack := bn, nackCnt := nc, busAddr := ba,
              busData := bd } : State).Inv :=
  { h with sendNotNacked := hbn, freshUntouched := fun h0 => absurd h0 hop }

/-- The inputs, the synchronisers, the byte read and the edge count are outside the invariant. -/
theorem withInputs (h : s.Inv) (dq fwd bwd : SyncChain) (p : Ports) (c : List Ports) (e : Nat) (r : Byte) :
    ({ s with dqSync := dq, fwdSync := fwd, bwdSync := bwd, ports := p, coming := c, edges := e, rdata := r } : State).Inv :=
  { h with }

theorem sampleInputs (h : s.Inv) : s.sampleInputs.Inv := h.withInputs _ _ _ _ _ _ _

theorem nextCycle (h : s.Inv) : s.nextCycle.Inv := by
  obtain ⟨p, c, heq⟩ := s.nextCycle_eq
  rw [heq]
  exact h.withInputs s.dqSync s.fwdSync s.bwdSync _ _ _ s.rdata

/-! ### The cycles that write a command's results -/

/-- F_SAMPLE: one bit more, which keeps SR right-aligned (42_frame_decoder.md rules R157 and R159). -/
theorem fSample (h : s.Inv) (hp : s.phase = .fSample) : (fSample s).Inv := by
  have hlt : s.bitidx.toNat < 40 := h.slotNumbered (by rw [hp]; rfl)
  have hidx : (s.bitidx + 1).toNat = s.bitidx.toNat + 1 := by bv_omega
  have hfd : s.phase.inFd = true := by rw [hp]; rfl
  exact {
    delaysFit := h.delaysFit
    cntFits := h.cntFits
    cntBelow := nofun
    bitidxBound := by show (s.bitidx + 1).toNat ≤ 40; omega
    handshakeEmpty := nofun
    slotNumbered := nofun
    fallSampled := fun _ => by show 1 ≤ (s.bitidx + 1).toNat; omega
    srAligned := by
      show (shiftIn s.sr s.dqSync.line).toNat < 2 ^ (s.bitidx + 1).toNat
      have hsr := h.srAligned
      have hbit := Bool.toNat_lt s.dqSync.line
      rw [shiftIn_toNat, hidx, Nat.pow_succ]
      exact Nat.lt_of_le_of_lt (Nat.mod_le _ _) (by omega)
    readyComplete := fun hr => absurd ((h.acqNotReady hfd).symm.trans hr) nofun
    acqNotReady := fun _ => h.acqNotReady hfd
    opFd := fun _ => h.opFd hfd
    opVs := nofun
    opBt := nofun
    sendNotNacked := nofun
    freshUntouched := fun h0 => absurd ((h.opFd hfd).symm.trans h0) (by decide) }

/-- ACQ's end makes a frame of 40 bits ready (42_frame_decoder.md rule R158). -/
theorem acqDone (h : s.Inv) (hp : s.phase = .fFall) (all : s.bitidx.toNat = 40) : (acqDone s).Inv :=
  { h.goto hp (q := .idle) (by decide) rfl with readyComplete := fun _ => all, acqNotReady := nofun }

/-- A completion frees the last SEND's result and, with a `Nack`, counts it (41_bus_transactor.md rules R134 and R135). -/
theorem sendDone (h : s.Inv) (hp : s.phase.inBt = true) (bn : Bool) (nc : Byte) :
    (({ s with busNack := bn, nackCnt := nc } : State).goto .idle).Inv := by
  have hop : s.op ≠ 0 := by rw [h.opBt hp]; decide
  exact (h.goto rfl (q := .idle) ⟨nofun, nofun, nofun, nofun, nofun, nofun⟩ rfl).withResults hop s.view s.viewChg s.ill s.ovr
    bn nc s.busAddr s.busData nofun

/-- A debounce's end moves the view and goes on to wait for the button's release (44_view_fsm.md rules R194 and R196). -/
theorem viewMoved (h : s.Inv) {p q : Phase} (hp : s.phase = p) (hvs : p.inVs = true) (hpq : p.LeadsTo q)
    (hq : q.delayLength s.params = none) (hbt : q.inBt = false) (v : BitVec 2) :
    (({ s with view := v, viewChg := true } : State).goto q).Inv := by
  have hop : s.op ≠ 0 := by rw [h.opVs (hp ▸ hvs)]; decide
  exact (h.goto hp hpq hq).withResults hop v true s.ill s.ovr s.busNack s.nackCnt s.busAddr s.busData
    fun hq' => absurd (hbt.symm.trans hq') nofun

/-- The reading of the buttons ends the POLL or starts a debounce (44_view_fsm.md rule R193). -/
theorem vCheck (h : s.Inv) (hp : s.phase = .vCheck) : (vCheck s).Inv := by
  obtain ⟨-, -, hpos, -, -, hle⟩ := h.delaysFit
  unfold Machine.vCheck
  split
  · exact h.startDelay hp (by decide) rfl hpos hle
  · split
    · exact h.startDelay hp (by decide) rfl hpos hle
    · exact h.goto hp (by decide) rfl

/-- After fewer than 40 bits the next slot follows (42_frame_decoder.md rule R158). -/
theorem nextSlot (h : s.Inv) (hp : s.phase = .fFall) (more : s.bitidx.toNat ≠ 40) : (s.goto .fRiseLow).Inv := by
  have hfd : s.phase.inFd = true := by rw [hp]; rfl
  exact { h with
    cntBelow := nofun
    handshakeEmpty := nofun
    slotNumbered := fun _ => Nat.lt_of_le_of_ne h.bitidxBound more
    fallSampled := nofun
    acqNotReady := fun _ => h.acqNotReady hfd
    opFd := fun _ => h.opFd hfd
    opVs := nofun
    opBt := nofun
    sendNotNacked := nofun }

/-- The wait for the fall after a sample (42_frame_decoder.md rule R158). -/
theorem fFall (h : s.Inv) (hp : s.phase = .fFall) : (fFall s).Inv := by
  refine waitFor_induct h fun _ => ?_
  split
  · next all => exact h.acqDone hp all
  · next more => exact h.nextSlot hp more

/-- The start condition's end (41_bus_transactor.md rule R128). -/
theorem tWstt (h : s.Inv) (hp : s.phase = .tWstt) : (tWstt s).Inv := by
  refine waitFor_induct h fun _ => ?_
  split
  · exact h.goto hp (by decide) rfl
  · exact h.goto hp (by decide) rfl

/-- The sequencer's step keeps the invariant. -/
theorem sequencerStep (h : s.Inv) : (sequencerStep s).Inv := by
  obtain ⟨-, hpos, -, -, hle, -⟩ := h.delaysFit
  unfold Machine.sequencerStep
  cases hp : s.phase
  case idle => exact h
  case fAckRel | fAckLow | fAckHigh | fRiseLow | vFrel | vBrel | tWtx1 | tWtx2 =>
    exact h.waitFor (h.goto hp (by decide) rfl)
  case fStart | fDelay => exact h.delay (h.goto hp (by decide) rfl)
  case tAddr | tStart | tWr | tNstop | tStop => exact h.goto hp (by decide) rfl
  case fRiseHigh => exact h.waitFor (h.startDelay hp (by decide) rfl hpos hle)
  case fSample => exact h.fSample hp
  case fFall => exact h.fFall hp
  case vCheck => exact h.vCheck hp
  case vFdeb => exact h.delay (h.viewMoved hp rfl (by decide) rfl rfl _)
  case vBdeb => exact h.delay (h.viewMoved hp rfl (by decide) rfl rfl _)
  case tWstt => exact h.tWstt hp
  case tNwstp => exact h.waitFor (h.sendDone (by rw [hp]; rfl) true _)
  case tWstp => exact h.waitFor (h.sendDone (by rw [hp]; rfl) false _)

/-! ### The host's write -/

/-- ACQ's acceptance starts from an empty frame (42_frame_decoder.md rule R152). -/
theorem acceptAcq (h : s.Inv) : (acceptAcq { s with op := 1 }).Inv := by
  obtain ⟨hpos, -, -, hle, -, -⟩ := h.delaysFit
  exact {
    delaysFit := h.delaysFit
    cntFits := cntLoad_lt _ _
    cntBelow := fun n hn => by
      obtain rfl : s.params.tStartCyc = n := Option.some.inj hn
      show cntLoad s.params.cntW s.params.tStartCyc < s.params.tStartCyc
      rw [cntLoad_eq hpos hle]; omega
    bitidxBound := Nat.zero_le _
    handshakeEmpty := fun _ => rfl
    slotNumbered := nofun
    fallSampled := nofun
    srAligned := (by decide : (0 : Frame).toNat < 2 ^ (0 : BitVec 6).toNat)
    readyComplete := nofun
    acqNotReady := fun _ => rfl
    opFd := fun _ => rfl
    opVs := nofun
    opBt := nofun
    sendNotNacked := nofun
    freshUntouched := nofun }

/-- POLL's acceptance (44_view_fsm.md rule R192). -/
theorem acceptPoll (h : s.Inv) : (acceptPoll { s with op := 2 }).Inv :=
  { h with
    cntBelow := nofun
    handshakeEmpty := nofun
    slotNumbered := nofun
    fallSampled := nofun
    acqNotReady := nofun
    opFd := nofun
    opVs := fun _ => rfl
    opBt := nofun
    sendNotNacked := nofun
    freshUntouched := nofun }

/-- SEND's acceptance clears its result (41_bus_transactor.md rule R121). -/
theorem acceptSend (h : s.Inv) : (acceptSend { s with op := 3 }).Inv :=
  { h with
    cntBelow := nofun
    handshakeEmpty := nofun
    slotNumbered := nofun
    fallSampled := nofun
    acqNotReady := nofun
    opFd := nofun
    opVs := nofun
    opBt := fun _ => rfl
    sendNotNacked := fun _ => rfl
    freshUntouched := nofun }

/-- The host's write keeps the invariant: before the first command, the clears it makes find nothing to clear. -/
theorem hostWrite (h : s.Inv) {i : Instr} {w : State} (hw : HostWrite s i w) : w.Inv := by
  cases hw
  case acq => exact h.acceptAcq
  case poll => exact h.acceptPoll
  case send => exact h.acceptSend
  case status m =>
    exact { h with
      freshUntouched := fun h0 => by
        obtain ⟨hidx, hview, hchg, hnack, hcnt, haddr, hdata⟩ := h.freshUntouched h0
        exact ⟨hidx, hview, by simp [clearSticky, hchg], hnack, hcnt, haddr, hdata⟩ }
  case nackCnt v =>
    exact { h with
      freshUntouched := fun h0 => by
        obtain ⟨hidx, hview, hchg, hnack, -, haddr, hdata⟩ := h.freshUntouched h0
        exact ⟨hidx, hview, hchg, hnack, rfl, haddr, hdata⟩ }
  case nothing => exact h
  case overrun | reserved | busAddr | busData => exact { h with }

/-- The next cycle's state meets the invariant. -/
theorem tick (h : s.Inv) : s.tick.Inv := by
  cases hr : s.ports.rst with
  | true => rw [tick_of_rst hr]; exact (s.resetEdge_inv h.delaysFit).nextCycle
  | false =>
    by_cases hp : s.phase = .idle
    · rw [tick_of_idle hr hp]
      exact ((h.hostWrite (hostWrite_presented s)).withInputs _ _ _ _ _ _ _).nextCycle
    · obtain ⟨vc, il, ov, nc, ba, bd, r, heq⟩ := tick_of_busy hr hp
      rw [heq]
      have hop : (Machine.sequencerStep s).op ≠ 0 := by rw [sequencerStep_op]; exact h.op_ne_zero_of_busy hp
      exact ((h.sequencerStep.withResults hop _ vc il ov _ nc ba bd h.sequencerStep.sendNotNacked).withInputs
        _ _ _ _ _ _ r).nextCycle

end State.Inv

/-- Settles O48: a step answers the next cycle's state, and each of its three kinds (a reset edge, an edge in IDLE, an edge of a
running command) keeps the invariant. -/
theorem stepKeepsTheInvariant : Obligations.StepKeepsTheInvariant := by
  intro s t h hstep
  obtain rfl : s.tick = t := by simpa [step_eq_tick] using hstep
  exact h.tick

end Sys2Proof.Machine
end

section
/-! PROOFS of the statements of 10_state.md on who writes which register: every step is a reset edge, or the host's write and,
while a command runs, the sequencer's step. -/

namespace Sys2Proof.Machine

/-! ### The registers the host's write can change -/

namespace HostWrite

variable {s w : State} {i : Instr} (h : HostWrite s i w)
include h

/-- No write moves the view. -/
theorem view : w.view = s.view := by
  cases h <;> rfl

/-- Only ACQ's acceptance clears the frame. -/
theorem frame : (w.sr = s.sr ∧ w.bitidx = s.bitidx ∧ w.frameRdy = s.frameRdy) ∨ (s.phase = .idle ∧ i = .acq) := by
  cases h
  case acq idle => exact .inr ⟨idle, rfl⟩
  all_goals exact .inl ⟨rfl, rfl, rfl⟩

/-- Only SEND's acceptance latches the operands and clears the result. -/
theorem latches :
    (w.btAddr = s.btAddr ∧ w.btData = s.btData ∧ w.busNack = s.busNack) ∨ (s.phase = .idle ∧ i = .send) := by
  cases h
  case send idle => exact .inr ⟨idle, rfl⟩
  all_goals exact .inl ⟨rfl, rfl, rfl⟩

/-- The count is cleared by a write to its own register. -/
theorem count : w.nackCnt = s.nackCnt ∨ ∃ v, i = .wrNackCnt v := by
  cases h
  case nackCnt v => exact .inr ⟨v, rfl⟩
  all_goals exact .inl rfl

/-- `op` is written by the acceptance of a command. -/
theorem kind : w.op = s.op ∨ (s.phase = .idle ∧
    ((i = .acq ∧ w.op = 1) ∨ (i = .poll ∧ w.op = 2) ∨ (i = .send ∧ w.op = 3))) := by
  cases h
  case acq idle => exact .inr ⟨idle, .inl ⟨rfl, rfl⟩⟩
  case poll idle => exact .inr ⟨idle, .inr (.inl ⟨rfl, rfl⟩)⟩
  case send idle => exact .inr ⟨idle, .inr (.inr ⟨rfl, rfl⟩)⟩
  all_goals exact .inl rfl

/-- `bus_addr` is written through its own register. -/
theorem address : w.busAddr = s.busAddr ∨ ∃ v, i = .wrBusAddr v := by
  cases h
  case busAddr v => exact .inr ⟨v, rfl⟩
  all_goals exact .inl rfl

/-- `bus_data` is written through its own register. -/
theorem byte : w.busData = s.busData ∨ ∃ v, i = .wrBusData v := by
  cases h
  case busData v => exact .inr ⟨v, rfl⟩
  all_goals exact .inl rfl

/-- No write sets VIEW_CHG. -/
theorem viewChg_not_set (h0 : s.viewChg = false) : w.viewChg = false := by
  cases h
  case status m => simp [clearSticky, h0]
  all_goals exact h0

/-- Only the write of a 1 to bit 4 of STATUS clears VIEW_CHG. -/
theorem viewChg_clear (h1 : s.viewChg = true) (h0 : w.viewChg = false) :
    ∃ m, i = .wrStatus m ∧ m.getLsbD 4 = true := by
  cases h
  case status m => exact ⟨m, rfl, by simpa [clearSticky, clearsViewChg, h1] using h0⟩
  all_goals exact absurd (h1.symm.trans h0) nofun

/-- Only a reserved opcode in IDLE sets ILL. -/
theorem ill_set (h0 : s.ill = false) (h1 : w.ill = true) :
    s.phase = .idle ∧ i.we = true ∧ i.reg = .cmd ∧ 4 ≤ i.data.toNat := by
  cases h
  case reserved idle we reg opcode => exact ⟨idle, we, reg, opcode⟩
  case status m => simp [clearSticky, h0] at h1
  all_goals exact absurd (h0.symm.trans h1) nofun

/-- Only the write of a 1 to bit 5 of STATUS clears ILL. -/
theorem ill_clear (h1 : s.ill = true) (h0 : w.ill = false) : ∃ m, i = .wrStatus m ∧ m.getLsbD 5 = true := by
  cases h
  case status m => exact ⟨m, rfl, by simpa [clearSticky, clearsIll, h1] using h0⟩
  case reserved => exact absurd h0 nofun
  all_goals exact absurd (h1.symm.trans h0) nofun

/-- Only a write to CMD while BUSY sets OVR. -/
theorem ovr_set (h0 : s.ovr = false) (h1 : w.ovr = true) : s.phase ≠ .idle ∧ i.we = true ∧ i.reg = .cmd := by
  cases h
  case overrun busy we reg => exact ⟨busy, we, reg⟩
  case status m => simp [clearSticky, h0] at h1
  all_goals exact absurd (h0.symm.trans h1) nofun

/-- Only the write of a 1 to bit 6 of STATUS clears OVR. -/
theorem ovr_clear (h1 : s.ovr = true) (h0 : w.ovr = false) : ∃ m, i = .wrStatus m ∧ m.getLsbD 6 = true := by
  cases h
  case status m => exact ⟨m, rfl, by simpa [clearSticky, clearsOvr, h1] using h0⟩
  case overrun => exact absurd h0 nofun
  all_goals exact absurd (h1.symm.trans h0) nofun

end HostWrite

/-! ### The registers the host's write and the sequencer's step share -/

section tick

variable {s : State} (hr : s.ports.rst = false)
include hr

/-- The debounce's end sets VIEW_CHG over the host's clear (60_exceptions.md rule R217 (c)). -/
theorem tick_viewChg : s.tick.viewChg =
    (decide ((s.phase = .vFdeb ∨ s.phase = .vBdeb) ∧ s.cnt = 0) || (writeEffect s.presented s).viewChg) := by
  by_cases h : s.phase = .idle
  · simp [tick_of_idle hr h, h]
  · obtain ⟨hphase, hcnt⟩ := (hostWrite_presented s).sequencing h
    simp [tick_of_no_rst hr, clockEdge_of_busy _ h, sequencerStep_viewChg, hphase, hcnt]

/-- A `Nack` counts from what the host's write leaves (60_exceptions.md rule R217 (d)). -/
theorem tick_nackCnt : s.tick.nackCnt =
    if s.phase = .tNwstp ∧ s.ports.bcStp = false then saturatingSucc (writeEffect s.presented s).nackCnt
    else (writeEffect s.presented s).nackCnt := by
  by_cases h : s.phase = .idle
  · simp [tick_of_idle hr h, h]
  · obtain ⟨hphase, -⟩ := (hostWrite_presented s).sequencing h
    obtain ⟨-, -, -, hports, -⟩ := (hostWrite_presented s).inputs
    simp [tick_of_no_rst hr, clockEdge_of_busy _ h, sequencerStep_nackCnt, hphase, hports]

end tick

/-- No step changes the parameters (70_reset_and_hazards.md rule R233). -/
theorem tick_params (s : State) : s.tick.params = s.params := by
  cases hr : s.ports.rst with
  | true => simp [tick_of_rst hr]
  | false =>
    obtain ⟨-, -, -, -, hparams⟩ := (hostWrite_presented s).inputs
    rw [tick_eq_writeEffect hr State.params (by simp) (by simp), hparams]

/-! ### The statements -/

/-- Settles O40: no write moves the view, and of the sequencer's moves only the ends of the debounce phases do. -/
theorem onlyPollMovesTheView : Obligations.OnlyPollMovesTheView := by
  intro s
  refine ⟨s.tick, step_eq_tick s, ?_⟩
  cases hr : s.ports.rst with
  | true => exact .inr (.inl ⟨rfl, by simp [tick_of_rst hr]⟩)
  | false =>
    by_cases h : s.phase = .idle
    · exact .inl ((tick_view_of_idle hr h).trans (hostWrite_presented s).view)
    · rw [tick_view_of_busy hr h]
      have hback : viewBackward s.view = s.view - 1 := by generalize s.view = v; revert v; decide
      rcases (sequencerMove_sequencerStep s).view with hv | ⟨hp, hc, hv⟩ | ⟨hp, hc, hv⟩
      · exact .inl hv
      · exact .inr (.inr (.inl ⟨rfl, hp, hc, hv⟩))
      · exact .inr (.inr (.inr ⟨rfl, hp, hc, hv.trans hback⟩))

/-- Settles O41: of the host's writes only ACQ's acceptance touches the frame, and of the sequencer's moves only the sample and
the end of the ACQ do. -/
theorem onlyAcqMovesTheFrame : Obligations.OnlyAcqMovesTheFrame := by
  intro s
  refine ⟨s.tick, step_eq_tick s, ?_⟩
  cases hr : s.ports.rst with
  | true => exact ⟨.inr (.inl rfl), .inr (.inl rfl)⟩
  | false =>
    by_cases h : s.phase = .idle
    · rw [tick_sr_of_idle hr h, tick_bitidx_of_idle hr h, tick_frameRdy_of_idle hr h]
      rcases (hostWrite_presented s).frame with ⟨hsr, hidx, hrdy⟩ | hacq
      · exact ⟨.inl ⟨hsr, hidx⟩, .inl hrdy⟩
      · exact ⟨.inr (.inr (.inl hacq)), .inr (.inr (.inl hacq))⟩
    · rw [tick_sr_of_busy hr h, tick_bitidx_of_busy hr h, tick_frameRdy_of_busy hr h]
      have hmove := sequencerMove_sequencerStep s
      exact ⟨hmove.frame.imp_right fun hp => .inr (.inr hp), hmove.frameRdy.imp_right fun hp => .inr (.inr hp)⟩

/-- Settles O42: the operands and the result are latched and cleared by SEND's acceptance alone, and the sequencer writes the
result and counts at a SEND's end alone. -/
theorem onlySendMovesItsResults : Obligations.OnlySendMovesItsResults := by
  intro s
  refine ⟨s.tick, step_eq_tick s, ?_⟩
  cases hr : s.ports.rst with
  | true => exact ⟨.inr (.inl rfl), .inr (.inl rfl), .inr (.inl rfl)⟩
  | false =>
    have hwrite := hostWrite_presented s
    refine ⟨?_, ?_, ?_⟩
    · rw [tick_btAddr hr, tick_btData hr]
      exact hwrite.latches.imp (fun ⟨haddr, hdata, _⟩ => ⟨haddr, hdata⟩) .inr
    · by_cases h : s.phase = .idle
      · rw [tick_busNack_of_idle hr h]
        exact hwrite.latches.imp (fun ⟨_, _, hnack⟩ => hnack) fun hsend => .inr (.inl hsend)
      · rw [tick_busNack_of_busy hr h]
        exact (sequencerMove_sequencerStep s).busNack.imp_right fun hend => .inr (.inr hend)
    · rw [tick_nackCnt hr]
      split
      · next hend => exact .inr (.inr (.inl hend))
      · exact hwrite.count.imp_right fun hclear => .inr (.inr hclear)

/-- Settles O43: each flag's set and clear are found among the host's writes, and VIEW_CHG's set at a debounce's end. -/
theorem stickyFlagsHaveOneSetterAndOneClearer : Obligations.StickyFlagsHaveOneSetterAndOneClearer := by
  intro s
  refine ⟨s.tick, step_eq_tick s, ?_⟩
  cases hr : s.ports.rst with
  | true => simp [tick_of_rst hr]
  | false =>
    have hwrite := hostWrite_presented s
    rw [tick_viewChg hr, tick_ill hr, tick_ovr hr]
    refine ⟨fun h0 h1 => ?_, hwrite.ill_set, hwrite.ovr_set, fun h1 h0 => .inr ?_,
      fun h1 h0 => .inr (hwrite.ill_clear h1 h0), fun h1 h0 => .inr (hwrite.ovr_clear h1 h0)⟩
    · simpa [hwrite.viewChg_not_set h0] using h1
    · exact hwrite.viewChg_clear h1 (Bool.or_eq_false_iff.mp h0).2

/-- Settles O44: the sequencer's step leaves these registers alone, and each has its own writes. -/
theorem operandsAndKindHaveOneWriter : Obligations.OperandsAndKindHaveOneWriter := by
  intro s
  refine ⟨s.tick, step_eq_tick s, tick_params s, ?_⟩
  cases hr : s.ports.rst with
  | true => exact ⟨.inr (.inl rfl), .inr (.inl rfl), .inr (.inl rfl)⟩
  | false =>
    have hwrite := hostWrite_presented s
    rw [tick_op hr, tick_busAddr hr, tick_busData hr]
    exact ⟨hwrite.kind.imp_right .inr, hwrite.address.imp_right .inr, hwrite.byte.imp_right .inr⟩

end Sys2Proof.Machine
end

section
/-! PROOFS of the statements of 10_state.md on the synchronised inputs, the latched operands, the outputs and the derived
values. -/

namespace Sys2Proof.Machine

/-! ### The raw levels of the sensor line and the buttons (10_state.md rule R30) -/

/-- The state with other levels at the three synchronised inputs' ports. -/
def State.setRaw (dq fwd bwd : Bool) (s : State) : State :=
  { s with ports := { s.ports with dqIn := dq, fwdN := fwd, bwdN := bwd } }

section setRaw

variable (dq fwd bwd : Bool) (s : State)

theorem waitFor_setRaw (cond : Bool) {exit : State → State}
    (hexit : exit (s.setRaw dq fwd bwd) = (exit s).setRaw dq fwd bwd) :
    waitFor cond exit (s.setRaw dq fwd bwd) = (waitFor cond exit s).setRaw dq fwd bwd := by
  cases cond
  · rfl
  · exact hexit

theorem delay_setRaw {exit : State → State} (hexit : exit (s.setRaw dq fwd bwd) = (exit s).setRaw dq fwd bwd) :
    delay exit (s.setRaw dq fwd bwd) = (delay exit s).setRaw dq fwd bwd := by
  by_cases h : s.cnt = 0
  · rw [delay_of_cnt_zero exit h, delay_of_cnt_zero (s := s.setRaw dq fwd bwd) exit h, hexit]
  · rw [delay_of_cnt_pos exit h, delay_of_cnt_pos (s := s.setRaw dq fwd bwd) exit h]; rfl

theorem commandWrite_setRaw {f : State → State} (hf : f (s.setRaw dq fwd bwd) = (f s).setRaw dq fwd bwd) :
    commandWrite f (s.setRaw dq fwd bwd) = (commandWrite f s).setRaw dq fwd bwd := by
  by_cases h : s.phase = .idle
  · rw [commandWrite_of_idle f h, commandWrite_of_idle (s := s.setRaw dq fwd bwd) f h, hf]
  · rw [commandWrite_of_busy f h, commandWrite_of_busy (s := s.setRaw dq fwd bwd) f h]; rfl

theorem ite_setRaw {c : Prop} [Decidable c] {t t' u u' : State} (ht : t' = t.setRaw dq fwd bwd)
    (hu : u' = u.setRaw dq fwd bwd) : (if c then t' else u') = (if c then t else u).setRaw dq fwd bwd := by
  rw [ht, hu, apply_ite (State.setRaw dq fwd bwd)]

/-- The host's write reads no raw level. -/
theorem writeEffect_setRaw (i : Instr) :
    writeEffect i (s.setRaw dq fwd bwd) = (writeEffect i s).setRaw dq fwd bwd := by
  cases i
  case acq => exact commandWrite_setRaw dq fwd bwd s (f := fun t => acceptAcq { t with op := 1 }) rfl
  case poll => exact commandWrite_setRaw dq fwd bwd s (f := fun t => acceptPoll { t with op := 2 }) rfl
  case send => exact commandWrite_setRaw dq fwd bwd s (f := fun t => acceptSend { t with op := 3 }) rfl
  case nop | wrCmdRsvd04 | wrCmdRsvd08 | wrCmdRsvd10 | wrCmdRsvd20 | wrCmdRsvd40 | wrCmdRsvd80 =>
    exact commandWrite_setRaw dq fwd bwd s rfl
  all_goals rfl

/-- The sequencer reads the synchronisers' second stages, and of the ports the controller's flags only. -/
theorem sequencerStep_setRaw : sequencerStep (s.setRaw dq fwd bwd) = (sequencerStep s).setRaw dq fwd bwd := by
  have hphase : (s.setRaw dq fwd bwd).phase = s.phase := rfl
  unfold sequencerStep
  rw [hphase]
  cases s.phase
  case fAckRel | fAckLow | fAckHigh | fRiseLow | fRiseHigh | vFrel | vBrel | tWtx1 | tWtx2 | tNwstp | tWstp =>
    exact waitFor_setRaw dq fwd bwd s _ rfl
  case fStart | fDelay | vFdeb | vBdeb => exact delay_setRaw dq fwd bwd s rfl
  case fFall | tWstt => exact waitFor_setRaw dq fwd bwd s _ (ite_setRaw dq fwd bwd rfl rfl)
  case vCheck => exact ite_setRaw dq fwd bwd rfl (ite_setRaw dq fwd bwd rfl rfl)
  all_goals rfl

/-- No register's read value shows a raw level. -/
theorem readVal_setRaw (r : Reg) : readVal r (s.setRaw dq fwd bwd) = readVal r s := by
  cases r <;> rfl

/-- The levels before the edge do not reach the host's write and the sequencer's step. -/
theorem clockEdge_setRaw (i : Instr) : ∃ u : State, clockEdge (writeEffect i) s = u.sampleInputs ∧
    clockEdge (writeEffect i) (s.setRaw dq fwd bwd) = (u.setRaw dq fwd bwd).sampleInputs := by
  by_cases h : s.phase = .idle
  · refine ⟨_, clockEdge_of_idle _ h, ?_⟩
    rw [clockEdge_of_idle (s := s.setRaw dq fwd bwd) _ h, writeEffect_setRaw]
  · refine ⟨_, clockEdge_of_busy _ h, ?_⟩
    rw [clockEdge_of_busy (s := s.setRaw dq fwd bwd) _ h, writeEffect_setRaw, sequencerStep_setRaw]

end setRaw

/-- Settles O46: only the synchronisers' first stages sample the raw levels. -/
theorem rawInputsReachOnlyTheSynchronisers : Obligations.RawInputsReachOnlyTheSynchronisers := by
  intro i s dq fwd bwd
  obtain ⟨u, hedge, hedge'⟩ := clockEdge_setRaw dq fwd bwd s i
  refine ⟨_, exec_eq i s, ?_⟩
  show exec i (s.setRaw dq fwd bwd) = _
  rw [exec_eq, hostCycle, hostCycle, hedge, hedge', readVal_setRaw]
  rfl

/-! ### The synchronisers' delay -/

/-- At an edge without reset each synchroniser shifts its input in (10_state.md rule R30). -/
theorem tick_synchronisers {s : State} (hr : s.ports.rst = false) :
    s.tick.dqSync = s.dqSync.shift s.ports.dqIn ∧ s.tick.fwdSync = s.fwdSync.shift s.ports.fwdN ∧
    s.tick.bwdSync = s.bwdSync.shift s.ports.bwdN := by
  by_cases h : s.phase = .idle
  · obtain ⟨hdq, hfwd, hbwd, hports, -⟩ := (hostWrite_presented s).inputs
    simp [tick_of_idle hr h, hdq, hfwd, hbwd, hports]
  · exact ⟨tick_dqSync_of_busy hr h, tick_fwdSync_of_busy hr h, tick_bwdSync_of_busy hr h⟩

/-- Settles O47: the first edge takes the level into the first stage, the second into the stage that is read. -/
theorem lineIsTheInputTwoEdgesEarlier : Obligations.LineIsTheInputTwoEdgesEarlier := by
  intro s hno
  obtain ⟨hdq, hfwd, hbwd⟩ := tick_synchronisers (s := s) (hno 0 (by decide))
  obtain ⟨hdq', hfwd', hbwd'⟩ := tick_synchronisers (s := s.tick) (hno 1 (by decide))
  show s.tick.tick.dqSync.line = _ ∧ s.tick.tick.fwdSync.line = _ ∧ s.tick.tick.bwdSync.line = _
  rw [hdq', hfwd', hbwd', hdq, hfwd, hbwd]
  exact ⟨rfl, rfl, rfl⟩

/-! ### The latched operands -/

/-- SEND's acceptance latches the operands (10_state.md rule R41). -/
theorem tick_latches_of_send {s : State} (hr : s.ports.rst = false) (hidle : s.phase = .idle)
    (hsend : s.presented = .send) : s.tick.btAddr = s.busAddr ∧ s.tick.btData = s.busData := by
  rw [tick_btAddr hr, tick_btData hr, hsend, writeEffect, commandWrite_of_idle _ hidle]
  exact ⟨rfl, rfl⟩

/-- While a command runs the latched operands stay. -/
theorem after_latches_of_busy {s : State} {n : Nat} (hno : s.NoReset n)
    (hbusy : ∀ k < n, (s.after k).phase ≠ .idle) :
    (s.after n).btAddr = s.btAddr ∧ (s.after n).btData = s.btData := by
  induction n with
  | zero => exact ⟨rfl, rfl⟩
  | succ n ih =>
    obtain ⟨haddr, hdata⟩ := ih (hno.mono n.le_succ) fun k hk => hbusy k (Nat.lt_succ_of_lt hk)
    have hr := hno n n.lt_succ_self
    have hp := hbusy n n.lt_succ_self
    rw [State.after_succ, tick_btAddr_of_busy hr hp, tick_btData_of_busy hr hp]
    exact ⟨haddr, hdata⟩

/-- Settles O59: the acceptance latches the operands, the cycles of the run keep them, and the outputs show them. -/
theorem runningSendKeepsItsOperands : Obligations.RunningSendKeepsItsOperands := by
  intro s n hidle hsend hno hbusy k hk hkn
  obtain ⟨m, rfl⟩ := Nat.exists_eq_add_of_le' hk
  obtain ⟨haddr, hdata⟩ := tick_latches_of_send (s := s) (hno 0 (by omega)) hidle hsend
  have hno' : s.tick.NoReset m := fun j hj => by
    rw [← State.after_succ']; exact hno (j + 1) (by omega)
  have hbusy' : ∀ j < m, (s.tick.after j).phase ≠ .idle := fun j hj => by
    rw [← State.after_succ']; exact hbusy (j + 1) (by omega) (by omega)
  obtain ⟨haddr', hdata'⟩ := after_latches_of_busy hno' hbusy'
  rw [State.bcSa, State.bcTxData, hno (m + 1) hkn, State.after_succ', haddr', hdata', haddr, hdata]
  exact ⟨rfl, rfl⟩

/-! ### Outputs and derived values -/

/-- Settles O9: each output is its phase's or its register's, gated by `rst`. -/
theorem outputsFollowThePhaseAndReset : Obligations.OutputsFollowThePhaseAndReset := by
  intro s
  cases hr : s.ports.rst <;>
    simp [State.dqDriveLow, State.bcSa, State.bcSaWe, State.bcStartW, State.bcTxData, State.bcTxWe, State.bcStop, hr]

/-- Settles O29: the bytes are the digits of SR to the base 256. -/
theorem frameIsItsFiveBytes : Obligations.FrameIsItsFiveBytes := by
  intro s
  have hlt := s.sr.isLt
  simp only [State.b0, State.b1, State.b2, State.b3, State.b4, BitVec.extractLsb'_toNat, Nat.shiftRight_eq_div_pow]
  omega

/-- A byte times 18 plus 320 fits 13 bits, so the 16-bit sum is exact (10_state.md rule R37). -/
theorem State.ftenths_toNat (s : State) : s.ftenths.toNat = s.b2.toNat * 18 + 320 := by
  have hlt := s.b2.isLt
  simp only [State.ftenths, BitVec.toNat_add, BitVec.toNat_mul, BitVec.toNat_setWidth, BitVec.toNat_ofNat]
  omega

/-- FTEN_HI and FTEN_LO show the two bytes of FTENTHS (10_state.md rule R44). -/
theorem ftenths_eq_readVals (s : State) :
    s.ftenths.toNat = (readVal .ftenHi s).toNat * 256 + (readVal .ftenLo s).toNat := by
  have hlt := s.ftenths.isLt
  simp only [readVal, BitVec.extractLsb'_toNat, Nat.shiftRight_eq_div_pow]
  omega

/-- Settles O31: the exact value gives the bounds, and an empty frame has `B2 = 0`. -/
theorem fahrenheitIsExact : Obligations.FahrenheitIsExact := by
  intro s
  have hb2 := s.b2.isLt
  have hval := s.ftenths_toNat
  refine ⟨hval, by omega, by omega, ftenths_eq_readVals s, fun hsr => ?_⟩
  simp [State.ftenths, State.b2, hsr]

/-- STATUS's bits from bit 0 on; the bits above them are 0 (10_state.md rule R42). -/
theorem State.status_getLsbD (s : State) (k : Nat) : s.status.getLsbD k =
    [s.busy, s.frameRdy, s.valid, s.busNack, s.viewChg, s.ill, s.ovr].getD k false := by
  rcases Nat.lt_or_ge k 8 with hk | hk
  · have h : s.status.getLsbD k =
        (BitVec.ofBool false ++ BitVec.ofBool s.ovr ++ BitVec.ofBool s.ill ++ BitVec.ofBool s.viewChg ++
          BitVec.ofBool s.busNack ++ BitVec.ofBool s.valid ++ BitVec.ofBool s.frameRdy ++ BitVec.ofBool s.busy).getLsbD k :=
      rfl
    rw [h]
    simp only [BitVec.getLsbD_append, BitVec.getLsbD_ofBool]
    interval_cases k <;> simp
  · rw [BitVec.getLsbD_of_ge _ _ hk, List.getD_eq_default _ _ (by simpa using Nat.le_of_succ_le hk)]

/-- Settles O32: bit 0 is BUSY, which is the phase's being another than IDLE. -/
theorem statusIsItsBits : Obligations.StatusIsItsBits := by
  intro s
  simp only [← s.busy_eq_true_iff, State.status_getLsbD]
  exact ⟨.rfl, rfl, rfl, rfl, rfl, rfl, rfl, rfl⟩

end Sys2Proof.Machine
end

section
/-! PROOFS of the statements of 20_memory.md: a read writes nothing, so its edge is the running command's alone. -/

namespace Sys2Proof.Machine

/-- A read has no write effect on any address (20_memory.md rule R66). -/
theorem writeEffect_of_read {i : Instr} (hi : i.we = false) : writeEffect i = id := by
  cases i
  case rdCmd | rdStatus | rdView | rdB0 | rdB1 | rdB2 | rdB3 | rdB4 | rdFtenLo | rdFtenHi | rdBusAddr | rdBusData | rdNackCnt |
      rdPhase | rdBitidx | rdRsvdF => rfl
  all_goals exact nomatch hi

/-- A read makes the edge with no host write, and the addressed register's byte goes out (40_host_interface.md rule R101). -/
theorem exec_of_read {i : Instr} (hi : i.we = false) (s : State) :
    exec i s = .next { clockEdge id s with rdata := readVal i.reg s } := by
  rw [exec_eq, writeEffect_of_read hi, hostCycle]

/-- Settles O13: both reads make the same edge with no host write, which in IDLE shifts the synchronisers alone. -/
theorem readsHaveNoSideEffect : Obligations.ReadsHaveNoSideEffect := by
  intro i j s hi hj
  refine ⟨_, _, exec_of_read hi s, exec_of_read hj s, rfl, fun idle => ?_⟩
  have hedge : clockEdge id s = s.sampleInputs := clockEdge_of_idle id idle
  rw [hedge]
  exact ⟨rfl, rfl, rfl, rfl⟩

end Sys2Proof.Machine
end

section
/-! PROOFS of the statements of 30_encoding.md: a word is its three fields, which the decoder keeps; an instruction is its fields
where it is well formed; and the rows of the opcode map exclude one another. -/

namespace Sys2Proof

/-! ### Decoding inverts encoding -/

/-- A word of three fields decodes by its fields (30_encoding.md rule R83). -/
theorem decode_htwOf (we : Bool) (a : RegAddr) (d : Byte) :
    decode (htwOf we a d) = if we then decodeWrite (Reg.ofAddr a) d else decodeRead (Reg.ofAddr a) d := by
  rw [decode, htwOf_we, htwOf_addr, htwOf_data]

/-- From 0x04 on, the opcode's range decides the row (30_encoding.md rule R83). -/
theorem decodeCommand_of_reserved {c : Byte} (h : 4 ≤ c.toNat) :
    decodeCommand c =
      if c.toNat < 0x08 then .wrCmdRsvd04 c
      else if c.toNat < 0x10 then .wrCmdRsvd08 c
      else if c.toNat < 0x20 then .wrCmdRsvd10 c
      else if c.toNat < 0x40 then .wrCmdRsvd20 c
      else if c.toNat < 0x80 then .wrCmdRsvd40 c
      else .wrCmdRsvd80 c := by
  have hne : ∀ n < 4, c ≠ BitVec.ofNat 8 n := by
    rintro n hn rfl
    rw [BitVec.toNat_ofNat] at h
    omega
  rw [decodeCommand, if_neg (hne 0 (by omega)), if_neg (hne 1 (by omega)), if_neg (hne 2 (by omega)),
    if_neg (hne 3 (by omega))]

/-- Decoding an encoded well-formed instruction gives it back: only the reserved opcodes' ranges need the premise. -/
theorem decode_encode {i : Instr} (hi : i.wellFormed = true) : decode (encode i) = i := by
  rw [encode, decode_htwOf, Reg.ofAddr_addr]
  cases i
  case wrCmdRsvd04 c | wrCmdRsvd08 c | wrCmdRsvd10 c | wrCmdRsvd20 c | wrCmdRsvd40 c | wrCmdRsvd80 c =>
    simp only [Instr.wellFormed, Bool.and_eq_true, decide_eq_true_eq] at hi
    change decodeCommand c = _
    simp (disch := omega) only [decodeCommand_of_reserved, if_pos, if_neg]
  all_goals rfl

/-- A word's number decodes as the word. -/
theorem decodeNat_toNat (h : Htw) : decodeNat h.toNat = .ok (decode h) := by
  rw [decodeNat, if_pos h.isLt, BitVec.ofNat_toNat, BitVec.setWidth_eq]

/-- A word's two bytes decode as the word (log entry 8). -/
theorem decodeBytes_toNat (h : Htw) (rest : List Byte) :
    decodeBytes (BitVec.ofNat 8 h.toNat :: BitVec.ofNat 8 (h.toNat / 256) :: rest) = .ok (decode h, rest) := by
  have hnum : (BitVec.ofNat 8 h.toNat).toNat + 256 * (BitVec.ofNat 8 (h.toNat / 256)).toNat = h.toNat := by
    rw [BitVec.toNat_ofNat, BitVec.toNat_ofNat]
    omega
  rw [decodeBytes, hnum, decodeNat_toNat]

/-- As an opcode-table word of 16 bits a word decodes as itself. -/
theorem decodeTableWord_toNat (h : Htw) : decodeTableWord 16 h.toNat = some (decode h) := by
  have hlt : h.toNat < 2 ^ 16 := by omega
  rw [decodeTableWord, Nat.mod_eq_of_lt hlt, decodeBytes_toNat]
  exact if_pos hlt

/-- Settles O2: the word's three fields give the instruction back, and the word's two bytes are the word. -/
theorem decodeOfEncodeIsTheInstruction : Obligations.DecodeOfEncodeIsTheInstruction := by
  intro i hi
  exact ⟨decode_encode hi, by rw [decodeTableWord_toNat, decode_encode hi]⟩

/-! ### Encoding inverts decoding -/

/-- The decoder keeps the word's three fields, so it drops no bit (30_encoding.md rule R81). -/
theorem encode_decode (h : Htw) : encode (decode h) = h := by
  rw [encode, decode_we, decode_reg, Reg.addr_ofAddr, decode_data, htwOf_fields]

/-- Settles O3: no word is refused, and the decoder keeps the word's fields. -/
theorem encodeOfDecodeIsTheWord : Obligations.EncodeOfDecodeIsTheWord :=
  fun h => ⟨decode_wellFormed h, encode_decode h⟩

/-! ### The opcode map -/

open Laws.EncodeRow in
/-- Every well-formed instruction's word lies in its own row. -/
theorem encode_matches_own_row (i : Instr) : Statement i := by
  cases i
  exacts [rdCmd _, rdStatus _, rdView _, rdB0 _, rdB1 _, rdB2 _, rdB3 _, rdB4 _, rdFtenLo _, rdFtenHi _, rdBusAddr _,
    rdBusData _, rdNackCnt _, rdPhase _, rdBitidx _, rdRsvdF _, nop, acq, poll, send, wrCmdRsvd04 _, wrCmdRsvd08 _,
    wrCmdRsvd10 _, wrCmdRsvd20 _, wrCmdRsvd40 _, wrCmdRsvd80 _, wrStatus _, wrView _, wrB0 _, wrB1 _, wrB2 _, wrB3 _, wrB4 _,
    wrFtenLo _, wrFtenHi _, wrBusAddr _, wrBusData _, wrNackCnt _, wrPhase _, wrBitidx _, wrRsvdF _]

/-- Rows that match a common word agree on the bits both masks keep. -/
theorem OpcodeRow.matchWords_agree {r q : OpcodeRow} {h : Htw} (hr : r.matches h = true) (hq : q.matches h = true) :
    r.matchWord &&& q.mask = q.matchWord &&& r.mask := by
  rw [OpcodeRow.matches, beq_iff_eq] at hr hq
  rw [← hr, ← hq, BitVec.and_assoc, BitVec.and_assoc, BitVec.and_comm r.mask]

/-- Different rows of the map differ in a bit both masks keep. -/
theorem opcodeTable_disjoint : ∀ r ∈ opcodeTable, ∀ q ∈ opcodeTable,
    r.matchWord &&& q.mask = q.matchWord &&& r.mask → r = q := by
  decide

theorem opcodeTable_nodup : opcodeTable.Nodup := by decide

/-- The rows that match a word are one row, where one matches (30_encoding.md rule R83). -/
theorem filter_matches_eq {r : OpcodeRow} {h : Htw} (hmem : r ∈ opcodeTable) (hr : r.matches h = true) :
    opcodeTable.filter (fun q => q.matches h) = [r] := by
  have honly : ∀ q ∈ opcodeTable, q.matches h = (q == r) := by
    intro q hq
    rw [Bool.eq_iff_iff, beq_iff_eq]
    exact ⟨fun hm => opcodeTable_disjoint q hq r hmem (OpcodeRow.matchWords_agree hm hr), fun heq => heq ▸ hr⟩
  rw [List.filter_congr honly, List.filter_beq, List.count_eq_one_of_mem opcodeTable_nodup hmem, List.replicate_one]

/-- Settles O4: a word is the encoding of the instruction it decodes to, so that instruction's row matches, and no other row
does. -/
theorem everyWordMatchesExactlyOneRow : Obligations.EveryWordMatchesExactlyOneRow := by
  refine ⟨rfl, fun h => ?_⟩
  obtain ⟨r, hmem, hname, hmatch⟩ := encode_matches_own_row (decode h) (decode_wellFormed h)
  rw [encode_decode] at hmatch
  rw [filter_matches_eq hmem hmatch, List.map_singleton, hname]

/-- Settles O1: the decoder is evaluated on each of the nineteen words. -/
theorem decodesWordsOfEveryFamily : Obligations.DecodesWordsOfEveryFamily := by
  unfold Obligations.DecodesWordsOfEveryFamily
  decide

end Sys2Proof
end

section
/-! LAWS for the statements of 40_host_interface.md: the next state of an instruction by its write, over the edge with no host
write; what the sequencer leaves of the host's registers; and the read values as numbers and as concatenations. -/

namespace Sys2Proof

/-! ### The registers without a write effect -/

/-- The registers whose writes are ignored (40_host_interface.md rule R111). -/
def Reg.ignoresWrites : Reg → Bool
  | .view | .b0 | .b1 | .b2 | .b3 | .b4 | .ftenLo | .ftenHi | .phase | .bitidx | .rsvdF => true
  | .cmd | .status | .busAddr | .busData | .nackCnt => false

/-- The addresses 0x2 to 0x9 and 0xD to 0xF are those of the registers that ignore writes (10_state.md rule R44). -/
theorem Reg.ofAddr_ignoresWrites_iff :
    ∀ a : RegAddr, (Reg.ofAddr a).ignoresWrites = true ↔ (2 ≤ a.toNat ∧ a.toNat ≤ 9) ∨ 13 ≤ a.toNat := by
  decide

end Sys2Proof

namespace Sys2Proof.Machine

/-! ### An edge in IDLE -/

/-- With no command running, the edge is the host's write and the synchronisers' shift (60_exceptions.md rule R225). -/
theorem exec_of_idle (i : Instr) {s : State} (idle : s.phase = .idle) :
    exec i s = .next { (writeEffect i s).sampleInputs with rdata := readVal i.reg s } := by
  rw [exec_eq, hostCycle, clockEdge_of_idle _ idle]

/-! ### A write to the host's own registers, over the edge without it -/

/-- A write to the sticky flags, the count and the operands changes just those registers over the edge without it, but that the
same edge's view change and `Nack` completion act after it (60_exceptions.md rule R217 (c), (d)). -/
theorem clockEdge_hostFields {w : State → State} {s : State} {vc il ov : Bool} {nc bd : Byte} {ba : BusAddr}
    (hw : w s = { s with viewChg := vc, ill := il, ovr := ov, nackCnt := nc, busAddr := ba, busData := bd }) :
    clockEdge w s = { clockEdge id s with
      viewChg := decide ((s.phase = .vFdeb ∨ s.phase = .vBdeb) ∧ s.cnt = 0) || vc
      ill := il
      ovr := ov
      nackCnt := if s.phase = .tNwstp ∧ s.ports.bcStp = false then saturatingSucc nc else nc
      busAddr := ba
      busData := bd } := by
  by_cases h : s.phase = .idle
  · rw [clockEdge_of_idle w h, clockEdge_of_idle id h, hw]
    simp [State.sampleInputs, h]
  · rw [clockEdge_of_busy w h, clockEdge_of_busy id h, hw, sequencerStep_hostFields]
    rfl

/-- The edge with no host write, in the registers it shares with the host or leaves to it. -/
theorem clockEdge_id_hostFields (s : State) :
    (clockEdge id s).viewChg = (decide ((s.phase = .vFdeb ∨ s.phase = .vBdeb) ∧ s.cnt = 0) || s.viewChg) ∧
    (clockEdge id s).ill = s.ill ∧ (clockEdge id s).ovr = s.ovr ∧
    (clockEdge id s).nackCnt =
      (if s.phase = .tNwstp ∧ s.ports.bcStp = false then saturatingSucc s.nackCnt else s.nackCnt) ∧
    (clockEdge id s).busAddr = s.busAddr ∧ (clockEdge id s).busData = s.busData := by
  by_cases h : s.phase = .idle
  · rw [clockEdge_of_idle id h]
    simp [h]
  · rw [clockEdge_of_busy id h]
    simp [sequencerStep_viewChg, sequencerStep_nackCnt]

/-- The next state of an instruction whose write sets the sticky flags, the count and the operands. -/
theorem exec_hostFields {i : Instr} {s : State} {vc il ov : Bool} {nc bd : Byte} {ba : BusAddr}
    (hw : writeEffect i s = { s with viewChg := vc, ill := il, ovr := ov, nackCnt := nc, busAddr := ba, busData := bd }) :
    exec i s = .next { clockEdge id s with
      viewChg := decide ((s.phase = .vFdeb ∨ s.phase = .vBdeb) ∧ s.cnt = 0) || vc
      ill := il
      ovr := ov
      nackCnt := if s.phase = .tNwstp ∧ s.ports.bcStp = false then saturatingSucc nc else nc
      busAddr := ba
      busData := bd
      rdata := readVal i.reg s } := by
  rw [exec_eq, hostCycle, clockEdge_hostFields hw]

/-! ### Writes to CMD -/

/-- Every write to CMD goes through the command dispatch (40_host_interface.md rule R103). -/
theorem writeEffect_of_command {i : Instr} (we : i.we = true) (reg : i.reg = .cmd) : ∃ f, writeEffect i = commandWrite f := by
  cases i
  case nop | acq | poll | send | wrCmdRsvd04 | wrCmdRsvd08 | wrCmdRsvd10 | wrCmdRsvd20 | wrCmdRsvd40 | wrCmdRsvd80 =>
    exact ⟨_, rfl⟩
  case rdCmd => exact nomatch we
  all_goals exact nomatch reg

/-- While BUSY every write to CMD, whatever its opcode, sets OVR alone (40_host_interface.md rule R105). -/
theorem writeEffect_of_command_busy {i : Instr} (we : i.we = true) (reg : i.reg = .cmd) {s : State} (busy : s.phase ≠ .idle) :
    writeEffect i s = { s with ovr := true } := by
  obtain ⟨f, hf⟩ := writeEffect_of_command we reg
  rw [hf, commandWrite_of_busy f busy]

/-- From 0x04 on, an opcode raises IllegalCommand (40_host_interface.md rule R106). -/
theorem writeEffect_of_reserved {c : Byte} (h : 4 ≤ c.toNat) :
    writeEffect (decodeCommand c) = commandWrite (raise .illegalCommand) := by
  rw [decodeCommand_of_reserved h]
  repeat' split
  all_goals rfl

/-! ### Writes without an effect -/

/-- A transaction on a register that ignores writes has no write effect. -/
theorem writeEffect_of_ignored {i : Instr} (hi : i.reg.ignoresWrites = true) : writeEffect i = id := by
  cases i
  case nop | acq | poll | send | wrCmdRsvd04 | wrCmdRsvd08 | wrCmdRsvd10 | wrCmdRsvd20 | wrCmdRsvd40 | wrCmdRsvd80 | wrStatus |
      wrBusAddr | wrBusData | wrNackCnt => exact nomatch hi
  all_goals rfl

/-- A transaction on a register that ignores writes makes the edge with no host write, and the register's byte goes out. -/
theorem exec_of_ignored {i : Instr} (hi : i.reg.ignoresWrites = true) (s : State) :
    exec i s = .next { clockEdge id s with rdata := readVal i.reg s } := by
  rw [exec_eq, writeEffect_of_ignored hi, hostCycle]

/-! ### Read values -/

/-- The record of the byte read is read by nothing (log entry 6). -/
theorem readVal_rdata (r : Reg) (s : State) (b : Byte) : readVal r { s with rdata := b } = readVal r s := by
  cases r <;> rfl

theorem readVal_cmd (s : State) : readVal .cmd s = 0#6 ++ s.op := BitVec.setWidth_eq_append (by decide)
theorem readVal_view (s : State) : readVal .view s = 0#6 ++ s.view := BitVec.setWidth_eq_append (by decide)
theorem readVal_bitidx (s : State) : readVal .bitidx s = 0#2 ++ s.bitidx := BitVec.setWidth_eq_append (by decide)
theorem readVal_busAddr (s : State) : readVal .busAddr s = 0#1 ++ s.busAddr := BitVec.setWidth_eq_append (by decide)

/-- Eight bits from bit `k` on are the word divided by `2^k`, to the base 256. -/
theorem extractByte_eq_ofNat {w : Nat} (k : Nat) (x : BitVec w) : x.extractLsb' k 8 = BitVec.ofNat 8 (x.toNat / 2 ^ k) := by
  rw [BitVec.extractLsb', Nat.shiftRight_eq_div_pow]

end Sys2Proof.Machine
end

section
/-! PROOFS of the statements of 40_host_interface.md: reads take the byte before the edge; a write to CMD while BUSY is an
overrun; and every other write changes its own registers over the edge without it. -/

namespace Sys2Proof.Machine

/-! ### Writes to CMD -/

/-- A write to CMD while BUSY: the running command's edge, with OVR set. -/
theorem exec_of_command_busy {i : Instr} (we : i.we = true) (reg : i.reg = .cmd) {s : State} (busy : s.phase ≠ .idle) :
    exec i s = .next { clockEdge id s with ovr := true, rdata := 0#6 ++ s.op } := by
  obtain ⟨hvc, hil, -, hnc, hba, hbd⟩ := clockEdge_id_hostFields s
  rw [exec_hostFields (writeEffect_of_command_busy we reg busy), ← hvc, ← hil, ← hnc, ← hba, ← hbd, reg, readVal_cmd]

/-- Settles O16: the overrun writes OVR alone, which the sequencer's step neither reads nor writes. -/
theorem commandWriteWhileBusyIsAnOverrun : Obligations.CommandWriteWhileBusyIsAnOverrun :=
  fun _ _ we reg busy => exec_of_command_busy we reg busy

/-- A reserved opcode in IDLE: ILL is set, and the synchronisers shift. -/
theorem exec_of_reserved_idle {i : Instr} (hw : writeEffect i = commandWrite (raise .illegalCommand)) (reg : i.reg = .cmd)
    {s : State} (idle : s.phase = .idle) :
    exec i s = .next { s.sampleInputs with ill := true, rdata := 0#6 ++ s.op } := by
  rw [exec_of_idle i idle, hw, commandWrite_of_idle _ idle, reg, readVal_cmd]
  rfl

/-- Settles O17: in IDLE all six ranges raise IllegalCommand; while BUSY any write to CMD is an overrun. -/
theorem reservedOpcodeSetsIllWhenIdle : Obligations.ReservedOpcodeSetsIllWhenIdle := by
  refine ⟨fun cmd s idle => ?_, fun cmd s hcmd => ?_⟩
  · and_intros <;> exact exec_of_reserved_idle rfl rfl idle
  · have hdecode : decode (htwOf true 0x0#4 cmd) = decodeCommand cmd := decode_htwOf true 0x0#4 cmd
    obtain ⟨we, reg, -⟩ := decodeCommand_fields cmd
    rw [hdecode]
    exact ⟨exec_of_reserved_idle (writeEffect_of_reserved hcmd) reg, exec_of_command_busy we reg⟩

/-- Settles O15: NOP's opcode does nothing in IDLE, and while BUSY it is a write to CMD like any other. -/
theorem nopChangesNothingWhenIdle : Obligations.NopChangesNothingWhenIdle := by
  refine ⟨by decide, fun s => ⟨fun idle => ?_, exec_of_command_busy rfl rfl⟩⟩
  rw [← readVal_cmd, exec_of_idle .nop idle, writeEffect, commandWrite_of_idle id idle]
  rfl

/-! ### Other writes -/

/-- Settles O21: the write clears before the same edge's view change sets. -/
theorem statusWriteClearsTheStickyBits : Obligations.StatusWriteClearsTheStickyBits := by
  intro m s
  obtain ⟨-, -, -, hnc, hba, hbd⟩ := clockEdge_id_hostFields s
  have hw : writeEffect (.wrStatus m) s = { s with
      viewChg := s.viewChg && !m.getLsbD 4, ill := s.ill && !m.getLsbD 5, ovr := s.ovr && !m.getLsbD 6 } := rfl
  refine ⟨rfl, ?_⟩
  rw [exec_hostFields hw, ← hnc, ← hba, ← hbd]
  rfl

/-- Settles O23: the same edge's `Nack` completion counts from the 0 the write leaves. -/
theorem nackCountWriteClears : Obligations.NackCountWriteClears := by
  intro v s
  obtain ⟨hvc, hil, hov, -, hba, hbd⟩ := clockEdge_id_hostFields s
  have hw : writeEffect (.wrNackCnt v) s = { s with nackCnt := 0 } := rfl
  refine ⟨rfl, ?_⟩
  rw [exec_hostFields hw, ← hvc, ← hil, ← hov, ← hba, ← hbd]
  rfl

/-- The low seven bits as a number. -/
theorem busAddrOperand_eq_ofNat (v : Byte) : busAddrOperand v = BitVec.ofNat 7 (v.toNat % 128) := by
  apply BitVec.eq_of_toNat_eq
  simp [busAddrOperand]

/-- Settles O22: each operand is written through its own register, which no step of the sequencer reads. -/
theorem busOperandWritesStore : Obligations.BusOperandWritesStore := by
  intro v s
  obtain ⟨hvc, hil, hov, hnc, hba, hbd⟩ := clockEdge_id_hostFields s
  refine ⟨⟨rfl, ?_⟩, rfl, ?_⟩
  · have hw : writeEffect (.wrBusAddr v) s = { s with busAddr := busAddrOperand v } := rfl
    rw [exec_hostFields hw, ← hvc, ← hil, ← hov, ← hnc, ← hbd, busAddrOperand_eq_ofNat, Instr.reg, readVal_busAddr]
  · have hw : writeEffect (.wrBusData v) s = { s with busData := v } := rfl
    rw [exec_hostFields hw, ← hvc, ← hil, ← hov, ← hnc, ← hba]
    rfl

/-- Settles O24: the registers at these addresses ignore writes. -/
theorem writesToReadOnlyRegistersAreIgnored : Obligations.WritesToReadOnlyRegistersAreIgnored := by
  refine ⟨fun v s => ?_, fun a v s ha => ?_⟩
  · and_intros <;> exact exec_of_ignored rfl s
  · have hreg : (decode (htwOf true a v)).reg = Reg.ofAddr a := by rw [decode_reg, htwOf_addr]
    have hign : (Reg.ofAddr a).ignoresWrites = true := (Reg.ofAddr_ignoresWrites_iff a).mpr ha
    rw [← hreg] at hign ⊢
    exact exec_of_ignored hign s

/-! ### Reads -/

/-- A read takes a byte equal to the addressed register's, and makes the edge with no host write. -/
theorem exec_of_read_of_eq {i : Instr} {s : State} {b : Byte} (hi : i.we = false) (hb : readVal i.reg s = b) :
    exec i s = .next { clockEdge id s with rdata := b } := by
  rw [exec_of_read hi, hb]

/-- Settles O10: the narrow registers are read with zeros above them. -/
theorem readsOfControlRegisters : Obligations.ReadsOfControlRegisters := fun s _ =>
  ⟨exec_of_read_of_eq rfl (readVal_cmd s), exec_of_read rfl s, exec_of_read_of_eq rfl (readVal_view s), exec_of_read rfl s,
    exec_of_read_of_eq rfl (readVal_bitidx s), exec_of_read rfl s⟩

/-- Settles O11: the bytes are digits to the base 256 of SR and of the exact Fahrenheit value. -/
theorem readsOfFrameRegisters : Obligations.ReadsOfFrameRegisters := by
  intro s xx
  have hbyte (k : Nat) : s.sr.extractLsb' k 8 = BitVec.ofNat 8 (s.sr.toNat / 2 ^ k) := extractByte_eq_ofNat k s.sr
  have hften (k : Nat) : s.ftenths.extractLsb' k 8 = BitVec.ofNat 8 ((s.b2.toNat * 18 + 320) / 2 ^ k) := by
    rw [extractByte_eq_ofNat, s.ftenths_toNat]
  have hlow := hbyte 0
  have hftenLo := hften 0
  rw [Nat.pow_zero, Nat.div_one] at hlow hftenLo
  exact ⟨exec_of_read_of_eq rfl (hbyte 32), exec_of_read_of_eq rfl (hbyte 24), exec_of_read_of_eq rfl (hbyte 16),
    exec_of_read_of_eq rfl (hbyte 8), exec_of_read_of_eq rfl hlow, exec_of_read_of_eq rfl hftenLo,
    exec_of_read_of_eq rfl (hften 8)⟩

/-- Settles O12: `bus_addr` is read with a zero above it, the others as they are. -/
theorem readsOfBusRegisters : Obligations.ReadsOfBusRegisters := fun s _ =>
  ⟨exec_of_read_of_eq rfl (readVal_busAddr s), exec_of_read rfl s, exec_of_read rfl s⟩

/-- Settles O14: the host cycle records the byte before it makes the edge, and the reset edge records the reset state's. -/
theorem hostTakesTheByteBeforeTheEdge : Obligations.HostTakesTheByteBeforeTheEdge := by
  intro s
  cases hr : s.ports.rst with
  | true =>
    refine ⟨_, step_of_rst hr, ?_, nofun⟩
    rw [State.nextCycle_rdata, State.hRdata, hr, if_pos rfl, State.resetEdge, readVal_rdata]
  | false =>
    have hbyte : (hostCycle s.presented.reg (writeEffect s.presented) s).nextCycle.rdata =
        readVal (Reg.ofAddr s.ports.hAddr) s := by
      rw [State.nextCycle_rdata, hostCycle_rdata, presented_reg]
    refine ⟨_, step_of_no_rst hr, ?_, fun _ => hbyte⟩
    rw [hbyte, State.hRdata, hr]
    rfl

end Sys2Proof.Machine
end

section
/-! LAWS for the statements of 41_bus_transactor.md: where SEND goes from each of its phases, what its ends record, and where
the not-acknowledge's level can reach. -/

namespace Sys2Proof.Machine

/-! ### An edge while BUSY, whatever the host presents -/

section busyEdge

variable (i : Instr) {s : State} (busy : s.phase ≠ .idle)
include busy

theorem clockEdge_phase_of_busy : (clockEdge (writeEffect i) s).phase = (sequencerStep s).phase := by
  obtain ⟨_, _, _, _, _, _, hw⟩ := writeEffect_of_busy i busy
  rw [clockEdge_hostFields hw, clockEdge_of_busy id busy]
  rfl

theorem clockEdge_busNack_of_busy : (clockEdge (writeEffect i) s).busNack = (sequencerStep s).busNack := by
  obtain ⟨_, _, _, _, _, _, hw⟩ := writeEffect_of_busy i busy
  rw [clockEdge_hostFields hw, clockEdge_of_busy id busy]
  rfl

/-- While BUSY the count is the host's only through its own register. -/
theorem writeEffect_nackCnt_of_busy (hi : ∀ v, i ≠ .wrNackCnt v) : (writeEffect i s).nackCnt = s.nackCnt := by
  cases i
  case wrNackCnt v => exact absurd rfl (hi v)
  case nop | acq | poll | send | wrCmdRsvd04 | wrCmdRsvd08 | wrCmdRsvd10 | wrCmdRsvd20 | wrCmdRsvd40 | wrCmdRsvd80 =>
    rw [writeEffect_of_command_busy rfl rfl busy]
  all_goals rfl

/-- Without a write to its register, the count moves at the `Nack` completion alone (41_bus_transactor.md rule R135). -/
theorem clockEdge_nackCnt_of_busy (hi : ∀ v, i ≠ .wrNackCnt v) : (clockEdge (writeEffect i) s).nackCnt =
    if s.phase = .tNwstp ∧ s.ports.bcStp = false then saturatingSucc s.nackCnt else s.nackCnt := by
  have hnc := writeEffect_nackCnt_of_busy i busy hi
  obtain ⟨_, _, _, nc, _, _, hw⟩ := writeEffect_of_busy i busy
  obtain rfl : nc = s.nackCnt := by rw [← hnc, hw]
  rw [clockEdge_hostFields hw]

end busyEdge

/-! ### SEND's phases (41_bus_transactor.md rules R124 to R133) -/

/-- The phase after each phase of SEND, by the controller's flags. -/
def Phase.sendNext (flags : Ports) : Phase → Phase
  | .tAddr => .tStart
  | .tStart => .tWtx1
  | .tWtx1 => if flags.bcTxrdy then .tWr else .tWtx1
  | .tWr => .tWstt
  | .tWstt => if flags.bcStt then .tWstt else if flags.bcNack then .tNstop else .tWtx2
  | .tNstop => .tNwstp
  | .tNwstp => if flags.bcStp then .tNwstp else .idle
  | .tWtx2 => if flags.bcTxrdy then .tStop else .tWtx2
  | .tStop => .tWstp
  | .tWstp => if flags.bcStp then .tWstp else .idle
  | p => p

/-- A phase of SEND is not IDLE. -/
theorem Phase.ne_idle_of_inBt {p : Phase} (h : p.inBt = true) : p ≠ .idle := by
  rintro rfl; cases h

/-- In SEND's phases the sequencer goes where `Phase.sendNext` says. -/
theorem sequencerStep_phase_of_send {s : State} (h : s.phase.inBt = true) :
    (sequencerStep s).phase = s.phase.sendNext s.ports := by
  unfold sequencerStep
  cases hp : s.phase
  case tAddr | tStart | tWr | tNstop | tStop => rfl
  case tWtx1 => cases hf : s.ports.bcTxrdy <;> simp [tWtx1, hf, hp, Phase.sendNext]
  case tWtx2 => cases hf : s.ports.bcTxrdy <;> simp [tWtx2, hf, hp, Phase.sendNext]
  case tNwstp => cases hf : s.ports.bcStp <;> simp [tNwstp, hf, hp, Phase.sendNext]
  case tWstp => cases hf : s.ports.bcStp <;> simp [tWstp, hf, hp, Phase.sendNext]
  case tWstt =>
    cases hf : s.ports.bcStt
    · cases hn : s.ports.bcNack <;> simp [tWstt, hf, hn, Phase.sendNext]
    · simp [tWstt, hf, hp, Phase.sendNext]
  all_goals rw [hp] at h; cases h

/-- The phase after an edge in SEND, whatever the host presents. -/
theorem hostCycle_phase_of_send (i : Instr) {s : State} {p : Phase} (hp : s.phase = p) (hbt : p.inBt = true) :
    (hostCycle i.reg (writeEffect i) s).phase = p.sendNext s.ports := by
  subst hp
  rw [hostCycle_phase, clockEdge_phase_of_busy i (Phase.ne_idle_of_inBt hbt), sequencerStep_phase_of_send hbt]

/-- The phase in the next cycle of a run in SEND. -/
theorem tick_phase_of_send {s : State} {p : Phase} (hr : s.ports.rst = false) (hp : s.phase = p) (hbt : p.inBt = true) :
    s.tick.phase = p.sendNext s.ports := by
  subst hp
  rw [tick_phase_of_busy hr (Phase.ne_idle_of_inBt hbt), sequencerStep_phase_of_send hbt]

/-- The `Nack` completion's result (41_bus_transactor.md rule R134). -/
theorem sequencerStep_busNack_of_nack {s : State} (h : s.phase = .tNwstp) (stopped : s.ports.bcStp = false) :
    (sequencerStep s).busNack = true := by
  simp [sequencerStep, h, tNwstp, stopped, raise]

/-- The success completion's result (41_bus_transactor.md rule R134). -/
theorem sequencerStep_busNack_of_success {s : State} (h : s.phase = .tWstp) (stopped : s.ports.bcStp = false) :
    (sequencerStep s).busNack = false := by
  simp [sequencerStep, h, tWstp, stopped]

/-- STATUS after a SEND's end: BUSY 0, and NACK the result (41_bus_transactor.md rule R134). -/
theorem status_of_sendDone {t : State} {b : Bool} (hp : t.phase = .idle) (hb : t.busNack = b) :
    t.status.getLsbD 0 = false ∧ t.status.getLsbD 3 = b := by
  rw [State.status_getLsbD, State.status_getLsbD]
  exact ⟨t.busy_eq_false_iff.mpr hp, hb⟩

/-! ### The not-acknowledge's level (41_bus_transactor.md rule R128) -/

/-- The state with another level of `bc_nack` at its port. -/
def State.setNack (level : Bool) (s : State) : State := { s with ports := { s.ports with bcNack := level } }

section setNack

variable (level : Bool) (s : State)

/-- The host's write does not read `bc_nack`. -/
theorem writeEffect_setNack (i : Instr) : writeEffect i (s.setNack level) = (writeEffect i s).setNack level := by
  cases i
  case nop | acq | poll | send | wrCmdRsvd04 | wrCmdRsvd08 | wrCmdRsvd10 | wrCmdRsvd20 | wrCmdRsvd40 | wrCmdRsvd80 =>
    simp only [writeEffect, commandWrite, apply_ite (State.setNack level)]
    rfl
  all_goals rfl

/-- Outside T_WSTT's exit cycle the sequencer does not read `bc_nack`. -/
theorem sequencerStep_setNack (h : ¬ (s.phase = .tWstt ∧ s.ports.bcStt = false)) :
    sequencerStep (s.setNack level) = (sequencerStep s).setNack level := by
  have hphase : (s.setNack level).phase = s.phase := rfl
  have hstt : (s.setNack level).ports.bcStt = s.ports.bcStt := rfl
  unfold sequencerStep
  rw [hphase]
  cases hp : s.phase
  case tWstt =>
    have hwait : s.ports.bcStt = true := by simpa [hp] using h
    simp [tWstt, hstt, hwait]
  case fAckRel | fAckLow | fAckHigh | fRiseLow | fRiseHigh | fFall | vFrel | vBrel | tWtx1 | tWtx2 | tNwstp | tWstp |
      fStart | fDelay | vFdeb | vBdeb | vCheck =>
    simp only [fAckRel, fAckLow, fAckHigh, fRiseLow, fRiseHigh, fFall, vFrel, vBrel, tWtx1, tWtx2, tNwstp, tWstp, waitFor,
      fStart, fDelay, vFdeb, vBdeb, delay, vCheck, apply_ite (State.setNack level)]
    rfl
  all_goals rfl

/-- No register's read value shows the level of `bc_nack`. -/
theorem readVal_setNack (r : Reg) : readVal r (s.setNack level) = readVal r s := by
  cases r <;> rfl

/-- Outside T_WSTT's exit cycle the level of `bc_nack` changes nothing in the next state but that input itself. -/
theorem exec_setNack (i : Instr) (h : ¬ (s.phase = .tWstt ∧ s.ports.bcStt = false)) :
    exec i (s.setNack level) = .next ((hostCycle i.reg (writeEffect i) s).setNack level) := by
  have hedge : clockEdge (writeEffect i) (s.setNack level) = (clockEdge (writeEffect i) s).setNack level := by
    by_cases idle : s.phase = .idle
    · rw [clockEdge_of_idle _ idle, clockEdge_of_idle (s := s.setNack level) _ idle, writeEffect_setNack]
      rfl
    · obtain ⟨_, _, _, _, _, _, hw⟩ := writeEffect_of_busy i idle
      have hwait : ¬ ((writeEffect i s).phase = .tWstt ∧ (writeEffect i s).ports.bcStt = false) := by rw [hw]; exact h
      rw [clockEdge_of_busy _ idle, clockEdge_of_busy (s := s.setNack level) _ idle, writeEffect_setNack,
        sequencerStep_setNack level _ hwait]
      rfl
  rw [exec_eq, hostCycle, hedge, readVal_setNack]
  rfl

end setNack

end Sys2Proof.Machine
end

section
/-! PROOFS of the statements of 41_bus_transactor.md: the phases of SEND one edge at a time, then the whole SEND as the history
its phase tells. -/

namespace Sys2Proof.Machine

/-! ### One edge -/

/-- Settles O38: each wait's next phase is `Phase.sendNext`, and outside T_WSTT's exit cycle nothing reads `bc_nack`. -/
theorem busWaitsFollowTheFlags : Obligations.BusWaitsFollowTheFlags := by
  refine ⟨⟨rfl, rfl, rfl⟩, fun i s => ⟨_, exec_eq i s, ?_, ?_, ?_, fun _ hexit level => exec_setNack level s i hexit⟩⟩
  all_goals exact fun hp => hostCycle_phase_of_send i hp rfl

/-- Settles O45: outside T_WSTT's exit cycle neither the host's write nor the sequencer's step reads `bc_nack`. -/
theorem nackIsReadOnlyAtStartCompletion : Obligations.NackIsReadOnlyAtStartCompletion :=
  fun i s level hexit => ⟨_, exec_eq i s, exec_setNack level s i hexit⟩

/-- Settles O37: a strobe is its phase's output, and the next phase is `Phase.sendNext`. -/
theorem strobePhasesLastOneCycle : Obligations.StrobePhasesLastOneCycle := by
  refine ⟨⟨rfl, rfl, rfl, rfl, rfl⟩, fun i s hr => ?_⟩
  obtain ⟨-, hsa, hsaWe, hstart, htxData, htxWe, hstop⟩ := (outputsFollowThePhaseAndReset s).1 hr
  have hnext {p : Phase} (hp : s.phase = p) := hostCycle_phase_of_send i hp
  exact ⟨_, exec_eq i s, fun hp => ⟨hsaWe.mpr hp, hsa, hnext hp rfl⟩, fun hp => ⟨hstart.mpr hp, hnext hp rfl⟩,
    fun hp => ⟨htxWe.mpr hp, htxData, hnext hp rfl⟩, fun hp => ⟨hstop.mpr (.inl hp), hnext hp rfl⟩,
    fun hp => ⟨hstop.mpr (.inr hp), hnext hp rfl⟩⟩

/-- Settles O20: in IDLE the edge is the acceptance and the synchronisers' shift. -/
theorem sendAcceptanceLatchesTheOperands : Obligations.SendAcceptanceLatchesTheOperands := by
  refine ⟨by decide, fun s idle => ?_⟩
  rw [← readVal_cmd, exec_of_idle .send idle, writeEffect, commandWrite_of_idle _ idle]
  rfl

/-- The edge that ends a SEND leaves IDLE, the result, and both in STATUS (41_bus_transactor.md rule R134). -/
theorem hostCycle_of_sendDone (i : Instr) {s : State} {p : Phase} {b : Bool} (hp : s.phase = p) (hbt : p.inBt = true)
    (hend : p.sendNext s.ports = .idle) (hresult : (sequencerStep s).busNack = b) :
    let t := hostCycle i.reg (writeEffect i) s
    t.busNack = b ∧ t.phase = .idle ∧ t.status.getLsbD 0 = false ∧ t.status.getLsbD 3 = b := by
  subst hp
  have hidle := (hostCycle_phase_of_send i rfl hbt).trans hend
  have hnack := (clockEdge_busNack_of_busy i (Phase.ne_idle_of_inBt hbt)).trans hresult
  exact ⟨hnack, hidle, status_of_sendDone hidle hnack⟩

/-- Settles O39: the two completions write the result and go to IDLE, and the count moves with the `Nack` completion alone. -/
theorem sendCompletionRecordsTheResult : Obligations.SendCompletionRecordsTheResult := by
  refine ⟨⟨rfl, rfl⟩, fun i s => ⟨_, exec_eq i s, fun hp stopped => ?_, fun hp going => ?_, fun hp stopped => ?_,
    fun hp going => ?_, fun hbt hend hi => ?_⟩⟩
  · obtain ⟨hnack, hidle, hbusy, hbit⟩ := hostCycle_of_sendDone i hp rfl (by rw [Phase.sendNext, stopped]; rfl)
      (sequencerStep_busNack_of_nack hp stopped)
    refine ⟨hnack, hidle, hbusy, hbit, fun hi => ?_⟩
    rw [hostCycle_nackCnt, clockEdge_nackCnt_of_busy i (by rw [hp]; nofun) hi, if_pos ⟨hp, stopped⟩, saturatingSucc_toNat]
  · rw [hostCycle_phase_of_send i hp rfl, Phase.sendNext, going, if_pos rfl]
  · exact hostCycle_of_sendDone i hp rfl (by rw [Phase.sendNext, stopped]; rfl)
      (sequencerStep_busNack_of_success hp stopped)
  · rw [hostCycle_phase_of_send i hp rfl, Phase.sendNext, going, if_pos rfl]
  · rw [hostCycle_nackCnt, clockEdge_nackCnt_of_busy i (Phase.ne_idle_of_inBt hbt) hi, if_neg hend]

/-! ### Two cycles from a stop strobe -/

/-- A stop wait stays while `bc_stp` is 1 and ends the SEND when it is 0 (41_bus_transactor.md rules R130 and R133). -/
theorem tick_phase_of_stopWait {s : State} (hr : s.ports.rst = false) (hp : s.phase = .tNwstp ∨ s.phase = .tWstp) :
    s.tick.phase = if s.ports.bcStp then s.phase else .idle := by
  rcases hp with hp | hp <;> rw [tick_phase_of_send hr hp rfl, hp, Phase.sendNext]

/-- Settles O60: the strobe's cycle leads to its wait, where K5 has `bc_stp` at 1, which keeps the wait one cycle more. -/
theorem stopIsSeenInProgress : Obligations.StopIsSeenInProgress := by
  intro s hstrobe hno hkeeps
  have hr : s.ports.rst = false := hno 0 (by decide)
  have hr' : s.tick.ports.rst = false := hno 1 (by decide)
  obtain ⟨-, -, -, -, -, -, hstop⟩ := (outputsFollowThePhaseAndReset s).1 hr
  have hgoing : s.tick.ports.bcStp = true := hkeeps.stopSeen (hstop.mpr hstrobe)
  have hwait : s.tick.phase = if s.phase = .tNstop then .tNwstp else .tWstp := by
    rcases hstrobe with hp | hp <;> rw [tick_phase_of_send hr hp rfl, hp] <;> rfl
  have hstay : s.tick.tick.phase = s.tick.phase := by
    rw [tick_phase_of_stopWait hr' (by rw [hwait]; split <;> simp), if_pos hgoing]
  refine ⟨hgoing, hstay.trans hwait, (State.busy_eq_true_iff _).mpr ?_⟩
  show s.tick.tick.phase ≠ .idle
  rw [hstay, hwait]
  split <;> nofun

/-! ### A whole SEND -/

/-- The phases of SEND before a stop strobe (41_bus_transactor.md rule R123). -/
def Phase.beforeStop : Phase → Bool
  | .tAddr | .tStart | .tWtx1 | .tWr | .tWstt | .tWtx2 => true
  | _ => false

/-- From a phase before the stop strobes SEND goes to another one or to a strobe. -/
theorem Phase.sendNext_of_beforeStop {p : Phase} (flags : Ports) (h : p.beforeStop = true) :
    (p.sendNext flags).beforeStop = true ∨ p.sendNext flags = .tNstop ∨ p.sendNext flags = .tStop := by
  cases p
  case tAddr | tStart | tWr => exact .inl rfl
  case tWtx1 => cases hf : flags.bcTxrdy <;> simp [Phase.sendNext, Phase.beforeStop, hf]
  case tWtx2 => cases hf : flags.bcTxrdy <;> simp [Phase.sendNext, Phase.beforeStop, hf]
  case tWstt => cases hf : flags.bcStt <;> cases hn : flags.bcNack <;> simp [Phase.sendNext, Phase.beforeStop, hf, hn]
  all_goals cases h

/-- The run has been in phase `p` in one of its first `n` cycles. -/
def State.visited (p : Phase) (n : Nat) (s : State) : Prop := ∃ k < n, (s.after k).phase = p

theorem State.visited_succ (p : Phase) (n : Nat) (s : State) :
    s.visited p (n + 1) ↔ s.visited p n ∨ (s.after n).phase = p :=
  Nat.exists_lt_succ_right

/-- A cycle without reset gives a stop strobe in T_NSTOP and T_STOP (10_state.md rule R45). -/
theorem State.stops_succ {s : State} {n : Nat} (hr : (s.after n).ports.rst = false) : s.stops (n + 1) =
    s.stops n + if (s.after n).phase = .tNstop ∨ (s.after n).phase = .tStop then 1 else 0 := by
  obtain ⟨-, -, -, -, -, -, hstop⟩ := (outputsFollowThePhaseAndReset (s.after n)).1 hr
  rw [State.stops, if_congr hstop rfl rfl]

/-- The stop strobes of a run's first `n` cycles: how many, and whether T_NSTOP and T_STOP are among their phases. -/
structure State.StrobeHistory (s : State) (n stops : Nat) (nstop stop : Prop) : Prop where
  count : s.stops n = stops
  nack : s.visited .tNstop n ↔ nstop
  success : s.visited .tStop n ↔ stop

namespace State.StrobeHistory

variable {s : State} {n stops : Nat} {nstop stop : Prop}

/-- At the start of a run nothing has happened. -/
theorem start (s : State) : s.StrobeHistory 0 0 False False := by
  constructor <;> simp [State.stops, State.visited]

variable (h : s.StrobeHistory n stops nstop stop) (hr : (s.after n).ports.rst = false)
include h hr

/-- A cycle in any other phase adds nothing. -/
theorem quiet (hn : (s.after n).phase ≠ .tNstop) (hs : (s.after n).phase ≠ .tStop) :
    s.StrobeHistory (n + 1) stops nstop stop where
  count := by rw [State.stops_succ hr, if_neg (by simp [hn, hs]), Nat.add_zero, h.count]
  nack := by rw [State.visited_succ, or_iff_left hn, h.nack]
  success := by rw [State.visited_succ, or_iff_left hs, h.success]

theorem nackStrobe (hp : (s.after n).phase = .tNstop) : s.StrobeHistory (n + 1) (stops + 1) True stop where
  count := by rw [State.stops_succ hr, if_pos (.inl hp), h.count]
  nack := by simp [State.visited_succ, hp]
  success := by rw [State.visited_succ, or_iff_left (by rw [hp]; nofun), h.success]

theorem successStrobe (hp : (s.after n).phase = .tStop) : s.StrobeHistory (n + 1) (stops + 1) nstop True where
  count := by rw [State.stops_succ hr, if_pos (.inr hp), h.count]
  nack := by rw [State.visited_succ, or_iff_left (by rw [hp]; nofun), h.nack]
  success := by simp [State.visited_succ, hp]

end State.StrobeHistory

/-- What a running SEND has done by its `n`-th cycle, as its phase tells it. -/
inductive State.SendStage (s : State) (n : Nat) : Prop
  | beforeStop (phase : (s.after n).phase.beforeStop = true) (history : s.StrobeHistory n 0 False False)
  | nackStrobe (phase : (s.after n).phase = .tNstop) (history : s.StrobeHistory n 0 False False)
  | successStrobe (phase : (s.after n).phase = .tStop) (history : s.StrobeHistory n 0 False False)
  | nackWait (phase : (s.after n).phase = .tNwstp) (history : s.StrobeHistory n 1 True False)
  | successWait (phase : (s.after n).phase = .tWstp) (history : s.StrobeHistory n 1 False True)

namespace State.SendStage

variable {s : State} {n : Nat}

/-- At every stage the SEND is running. -/
theorem ne_idle (h : s.SendStage n) : (s.after n).phase ≠ .idle := by
  cases h
  all_goals
    next hp _ =>
      intro hidle
      rw [hidle] at hp
      cases hp

/-- After a cycle before the stop strobes a SEND is still before them or at one. -/
theorem succ_of_beforeStop (hp : (s.after n).phase.beforeStop = true) (history : s.StrobeHistory n 0 False False)
    (hr : (s.after n).ports.rst = false) : s.SendStage (n + 1) := by
  have hbt : (s.after n).phase.inBt = true := by revert hp; cases (s.after n).phase <;> decide
  have hquiet := history.quiet hr (fun h => by rw [h] at hp; cases hp) (fun h => by rw [h] at hp; cases hp)
  have hnext := Phase.sendNext_of_beforeStop (s.after n).ports hp
  rw [← tick_phase_of_send hr rfl hbt] at hnext
  rcases hnext with h | h | h
  · exact .beforeStop h hquiet
  · exact .nackStrobe h hquiet
  · exact .successStrobe h hquiet

/-- After one more cycle a SEND is at its next stage, or it has ended from a stop wait with `bc_stp` 0. -/
theorem succ (h : s.SendStage n) (hr : (s.after n).ports.rst = false) : s.SendStage (n + 1) ∨
    ((s.after n).ports.bcStp = false ∧ (
      ((s.after n).phase = .tNwstp ∧ s.StrobeHistory (n + 1) 1 True False) ∨
      ((s.after n).phase = .tWstp ∧ s.StrobeHistory (n + 1) 1 False True))) := by
  cases h
  case beforeStop hp history => exact .inl (succ_of_beforeStop hp history hr)
  case nackStrobe hp history =>
    exact .inl (.nackWait (tick_phase_of_send hr hp rfl) (history.nackStrobe hr hp))
  case successStrobe hp history =>
    exact .inl (.successWait (tick_phase_of_send hr hp rfl) (history.successStrobe hr hp))
  case nackWait hp history =>
    have hquiet := history.quiet hr (by rw [hp]; nofun) (by rw [hp]; nofun)
    cases hstp : (s.after n).ports.bcStp with
    | true => exact .inl (.nackWait (by rw [State.after_succ, tick_phase_of_stopWait hr (.inl hp), if_pos hstp, hp]) hquiet)
    | false => exact .inr ⟨rfl, .inl ⟨hp, hquiet⟩⟩
  case successWait hp history =>
    have hquiet := history.quiet hr (by rw [hp]; nofun) (by rw [hp]; nofun)
    cases hstp : (s.after n).ports.bcStp with
    | true => exact .inl (.successWait (by rw [State.after_succ, tick_phase_of_stopWait hr (.inr hp), if_pos hstp, hp]) hquiet)
    | false => exact .inr ⟨rfl, .inr ⟨hp, hquiet⟩⟩

end State.SendStage

/-- A run from T_ADDR that has not come to IDLE is at one of the stages. -/
theorem sendStage_of_busy {s : State} {n : Nat} (hp : s.phase = .tAddr) (hno : s.NoReset n)
    (hbusy : ∀ k ≤ n, (s.after k).phase ≠ .idle) : s.SendStage n := by
  induction n with
  | zero => exact .beforeStop (by rw [State.after_zero, hp]; rfl) (.start s)
  | succ n ih =>
    have hr := hno n n.lt_succ_self
    have stage := ih (hno.mono n.le_succ) fun k hk => hbusy k (Nat.le_succ_of_le hk)
    refine (stage.succ hr).resolve_right fun ⟨hstp, hwait⟩ => hbusy (n + 1) le_rfl ?_
    rw [State.after_succ, tick_phase_of_stopWait hr (hwait.imp And.left And.left), hstp]
    rfl

/-- Settles O58: at every stage the phase tells the run's stop strobes; only a stop wait leads to IDLE, and it records the path
the SEND took. -/
theorem completedSendGaveOneStop : Obligations.CompletedSendGaveOneStop := by
  intro s n hp hno hbusy hidle
  obtain _ | m := n
  · rw [State.after_zero, hp] at hidle
    cases hidle
  have hr := hno m m.lt_succ_self
  have stage : s.SendStage m :=
    sendStage_of_busy hp (hno.mono m.le_succ) fun k hk => hbusy k (Nat.lt_succ_of_le hk)
  obtain ⟨hstp, hend⟩ := (stage.succ hr).resolve_left fun h => h.ne_idle hidle
  have hresult : (s.after (m + 1)).busNack = (sequencerStep (s.after m)).busNack :=
    tick_busNack_of_busy hr (hbusy m m.lt_succ_self)
  rcases hend with ⟨hwait, hcount, hnstop, hstop⟩ | ⟨hwait, hcount, hnstop, hstop⟩
  · rw [hresult, sequencerStep_busNack_of_nack hwait hstp]
    exact ⟨hcount, ⟨m, rfl, hstp, .inl hwait⟩, iff_of_true rfl (hnstop.mpr trivial), iff_of_false nofun hstop.mp⟩
  · rw [hresult, sequencerStep_busNack_of_success hwait hstp]
    exact ⟨hcount, ⟨m, rfl, hstp, .inr hwait⟩, iff_of_false nofun hnstop.mp, iff_of_true rfl (hstop.mpr trivial)⟩

end Sys2Proof.Machine
end

section
/-! LAWS for the statements of 42_frame_decoder.md: where ACQ goes from each of its phases, and what its sample and its end
write. -/

namespace Sys2Proof.Machine

/-! ### An edge while BUSY, in the registers the host cannot write -/

section busyEdge

variable (i : Instr) {s : State} (busy : s.phase ≠ .idle)
include busy

/-- A field that neither the host can write while BUSY nor the synchronisers take is what the sequencer's step leaves there. -/
theorem hostCycle_eq_sequencerStep {α : Type} (f : State → α)
    (hf : ∀ (u : State) vc il ov nc ba bd r, f { u.sampleInputs with
      viewChg := vc, ill := il, ovr := ov, nackCnt := nc, busAddr := ba, busData := bd, rdata := r } = f u) :
    f (hostCycle i.reg (writeEffect i) s) = f (sequencerStep s) := by
  obtain ⟨vc, il, ov, nc, ba, bd, r, he⟩ := exec_of_busy i busy
  rw [exec_eq, Host.Outcome.next.injEq] at he
  rw [he, hf]

theorem hostCycle_cnt_of_busy : (hostCycle i.reg (writeEffect i) s).cnt = (sequencerStep s).cnt :=
  hostCycle_eq_sequencerStep i busy State.cnt fun _ _ _ _ _ _ _ _ => rfl
theorem hostCycle_sr_of_busy : (hostCycle i.reg (writeEffect i) s).sr = (sequencerStep s).sr :=
  hostCycle_eq_sequencerStep i busy State.sr fun _ _ _ _ _ _ _ _ => rfl
theorem hostCycle_bitidx_of_busy : (hostCycle i.reg (writeEffect i) s).bitidx = (sequencerStep s).bitidx :=
  hostCycle_eq_sequencerStep i busy State.bitidx fun _ _ _ _ _ _ _ _ => rfl
theorem hostCycle_frameRdy_of_busy : (hostCycle i.reg (writeEffect i) s).frameRdy = (sequencerStep s).frameRdy :=
  hostCycle_eq_sequencerStep i busy State.frameRdy fun _ _ _ _ _ _ _ _ => rfl
theorem hostCycle_op_of_busy : (hostCycle i.reg (writeEffect i) s).op = s.op :=
  (hostCycle_eq_sequencerStep i busy State.op fun _ _ _ _ _ _ _ _ => rfl).trans (sequencerStep_op s)

end busyEdge

/-! ### ACQ's phases (42_frame_decoder.md rules R153 to R158) -/

/-- The phase after each phase of ACQ, by the level of `line(dq)`, the counter and the number of bits sampled. -/
def Phase.acqNext (line : Bool) (cnt idx : Nat) : Phase → Phase
  | .fStart => if cnt = 0 then .fAckRel else .fStart
  | .fAckRel => if line = true then .fAckLow else .fAckRel
  | .fAckLow => if line = false then .fAckHigh else .fAckLow
  | .fAckHigh => if line = true then .fRiseLow else .fAckHigh
  | .fRiseLow => if line = false then .fRiseHigh else .fRiseLow
  | .fRiseHigh => if line = true then .fDelay else .fRiseHigh
  | .fDelay => if cnt = 0 then .fSample else .fDelay
  | .fSample => .fFall
  | .fFall => if line = true then .fFall else if idx = Config.frameBits then .idle else .fRiseLow
  | p => p

/-- A phase of ACQ is not IDLE. -/
theorem Phase.ne_idle_of_inFd {p : Phase} (h : p.inFd = true) : p ≠ .idle := by
  rintro rfl; cases h

/-- In ACQ's phases the sequencer goes where `Phase.acqNext` says. -/
theorem sequencerStep_phase_of_acq {s : State} (h : s.phase.inFd = true) :
    (sequencerStep s).phase = s.phase.acqNext s.dqSync.stage1 s.cnt s.bitidx.toNat := by
  unfold sequencerStep
  cases hp : s.phase
  case fSample => rfl
  case fStart | fDelay =>
    simp only [fStart, fDelay, delay, Phase.acqNext, apply_ite State.phase, State.goto_phase, hp]
  case fFall =>
    cases hl : s.dqSync.stage1
    · simp [fFall, SyncChain.line, hl, Phase.acqNext, apply_ite State.phase, acqDone]
    · simp [fFall, SyncChain.line, hl, Phase.acqNext, hp]
  case fAckRel | fAckLow | fAckHigh | fRiseLow | fRiseHigh =>
    cases hl : s.dqSync.stage1 <;>
      simp [fAckRel, fAckLow, fAckHigh, fRiseLow, fRiseHigh, SyncChain.line, hl, Phase.acqNext, hp]
  all_goals rw [hp] at h; cases h

/-- Only F_FALL with 40 bits and the line low leads to IDLE (42_frame_decoder.md rules R158 and R162). -/
theorem Phase.acqNext_eq_idle {p : Phase} {line : Bool} {cnt idx : Nat} (h : p.inFd = true)
    (hend : p.acqNext line cnt idx = .idle) : p = .fFall ∧ line = false ∧ idx = Config.frameBits := by
  cases p
  case fFall => simpa [Phase.acqNext, ite_eq_iff] using hend
  case fSample => cases hend
  case fStart | fDelay | fAckRel | fAckLow | fAckHigh | fRiseLow | fRiseHigh =>
    rw [Phase.acqNext] at hend
    split at hend <;> cases hend
  all_goals cases h

/-- The phase after an edge in ACQ, whatever the host presents. -/
theorem hostCycle_phase_of_acq (i : Instr) {s : State} {p : Phase} (hp : s.phase = p) (hfd : p.inFd = true) :
    (hostCycle i.reg (writeEffect i) s).phase = p.acqNext s.dqSync.stage1 s.cnt s.bitidx.toNat := by
  subst hp
  rw [hostCycle_phase, clockEdge_phase_of_busy i (Phase.ne_idle_of_inFd hfd), sequencerStep_phase_of_acq hfd]

/-! ### ACQ's registers -/

/-- Where no bit is sampled, an edge while BUSY leaves the bits, their number and the kind of the command alone. -/
theorem hostCycle_bits_of_noSample (i : Instr) {s : State} (busy : s.phase ≠ .idle) (hsample : s.phase ≠ .fSample) :
    (hostCycle i.reg (writeEffect i) s).sr = s.sr ∧ (hostCycle i.reg (writeEffect i) s).bitidx = s.bitidx ∧
    (hostCycle i.reg (writeEffect i) s).op = s.op := by
  obtain ⟨hsr, hidx⟩ := (sequencerMove_sequencerStep s).frame.resolve_right hsample
  exact ⟨(hostCycle_sr_of_busy i busy).trans hsr, (hostCycle_bitidx_of_busy i busy).trans hidx, hostCycle_op_of_busy i busy⟩

/-- Where, besides, no frame ends, it leaves the whole frame alone. -/
theorem hostCycle_frame_of_quiet (i : Instr) {s : State} (busy : s.phase ≠ .idle) (hsample : s.phase ≠ .fSample)
    (hfall : s.phase ≠ .fFall) :
    let t := hostCycle i.reg (writeEffect i) s
    t.sr = s.sr ∧ t.bitidx = s.bitidx ∧ t.frameRdy = s.frameRdy ∧ t.op = s.op := by
  obtain ⟨hsr, hidx, hop⟩ := hostCycle_bits_of_noSample i busy hsample
  have hrdy := (sequencerMove_sequencerStep s).frameRdy.resolve_right fun h => hfall h.1
  exact ⟨hsr, hidx, (hostCycle_frameRdy_of_busy i busy).trans hrdy, hop⟩

theorem sequencerStep_of_sample {s : State} (h : s.phase = .fSample) : sequencerStep s = fSample s := by
  simp [sequencerStep, h]

theorem sequencerStep_of_fall {s : State} (h : s.phase = .fFall) : sequencerStep s = fFall s := by
  simp [sequencerStep, h]

/-- The rise's exit loads the counter (42_frame_decoder.md rule R156), within 00_scope.md rule R8's constraints with
`T_SAMPLE_CYC - 1`. -/
theorem sequencerStep_cnt_of_rise {s : State} (h : s.phase = .fRiseHigh) (high : s.dqSync.stage1 = true)
    (hfit : s.params.DelaysFit) : (sequencerStep s).cnt = s.params.tSampleCyc - 1 := by
  obtain ⟨-, hpos, -, -, hle, -⟩ := hfit
  simp [sequencerStep, h, fRiseHigh, SyncChain.line, high, cntLoad_eq hpos hle]

/-- The counter counts down in F_DELAY (00_scope.md rule R12). -/
theorem sequencerStep_cnt_of_delay {s : State} (h : s.phase = .fDelay) (hcnt : s.cnt ≠ 0) :
    (sequencerStep s).cnt = s.cnt - 1 := by
  simp [sequencerStep, h, fDelay, delay_of_cnt_pos _ hcnt]

/-- F_FALL makes the frame ready in the cycle that ends the ACQ (42_frame_decoder.md rule R158). -/
theorem sequencerStep_frameRdy_of_fall {s : State} (h : s.phase = .fFall) :
    (sequencerStep s).frameRdy =
      if s.dqSync.stage1 = false ∧ s.bitidx.toNat = Config.frameBits then true else s.frameRdy := by
  rw [sequencerStep_of_fall h, fFall, SyncChain.line]
  cases s.dqSync.stage1
  · by_cases hidx : s.bitidx.toNat = Config.frameBits <;> simp [hidx, acqDone]
  · simp

/-- The checksum is of the bits alone (43_checksum.md rule R180). -/
theorem State.chkOk_congr {s t : State} (h : t.sr = s.sr) : t.chkOk = s.chkOk := by
  simp only [State.chkOk, State.sum10, State.b0, State.b1, State.b2, State.b3, State.b4, h]

/-- The shifted-in frame as a number modulo `2^40` (42_frame_decoder.md rule R157). -/
theorem shiftIn_eq_ofNat (sr : Frame) (b : Bool) : shiftIn sr b = BitVec.ofNat 40 (2 * sr.toNat + b.toNat) :=
  BitVec.eq_of_toNat_eq (by rw [shiftIn_toNat, BitVec.toNat_ofNat])

end Sys2Proof.Machine
end

section
/-! LAWS for the runs of 42_frame_decoder.md: one cycle of an ACQ, the line's levels, how long its waits and delays last, and
the bits of a frame as a number. -/

namespace Sys2Proof.Machine

/-! ### One cycle of an ACQ -/

section tick

variable {s : State} (hr : s.ports.rst = false)
include hr

/-- The phase in the next cycle of a run in ACQ. -/
theorem tick_phase_of_acq {p : Phase} (hp : s.phase = p) (hfd : p.inFd = true) :
    s.tick.phase = p.acqNext s.dqSync.line s.cnt s.bitidx.toNat := by
  subst hp
  rw [tick_phase_of_busy hr (Phase.ne_idle_of_inFd hfd), sequencerStep_phase_of_acq hfd, SyncChain.line]

/-- While BUSY, only a sample moves the bits and their number (10_state.md rules R27 and R28). -/
theorem tick_bits_of_noSample (busy : s.phase ≠ .idle) (hsample : s.phase ≠ .fSample) :
    s.tick.sr = s.sr ∧ s.tick.bitidx = s.bitidx := by
  rw [tick_sr_of_busy hr busy, tick_bitidx_of_busy hr busy]
  exact (sequencerMove_sequencerStep s).frame.resolve_right hsample

/-- F_SAMPLE takes the line's level in (42_frame_decoder.md rule R157). -/
theorem tick_bits_of_sample (hp : s.phase = .fSample) :
    s.tick.sr = shiftIn s.sr s.dqSync.line ∧ s.tick.bitidx = s.bitidx + 1 := by
  have busy : s.phase ≠ .idle := by rw [hp]; nofun
  rw [tick_sr_of_busy hr busy, tick_bitidx_of_busy hr busy, sequencerStep_of_sample hp]
  exact ⟨rfl, rfl⟩

/-- The cycle that ends an ACQ finds 40 bits and makes the frame ready (42_frame_decoder.md rule R158). -/
theorem tick_of_acqEnd (hfd : s.phase.inFd = true) (hend : s.tick.phase = .idle) :
    s.bitidx.toNat = Config.frameBits ∧ s.tick.frameRdy = true := by
  rw [tick_phase_of_acq hr rfl hfd] at hend
  obtain ⟨hp, hline, hidx⟩ := Phase.acqNext_eq_idle hfd hend
  rw [tick_frameRdy_of_busy hr (by rw [hp]; nofun), sequencerStep_frameRdy_of_fall hp]
  exact ⟨hidx, if_pos ⟨hline, hidx⟩⟩

/-- The acceptance of an ACQ clears the frame and starts the start pulse, within 00_scope.md rule R8's constraints with the
counter at `T_START_CYC - 1` (42_frame_decoder.md rule R152). -/
theorem tick_of_acq (idle : s.phase = .idle) (hacq : s.presented = .acq) :
    s.tick.phase = .fStart ∧ s.tick.sr = 0 ∧ s.tick.bitidx = 0 ∧
    (s.params.DelaysFit → s.tick.cnt = s.params.tStartCyc - 1) := by
  rw [tick_of_idle hr idle, hacq, writeEffect, commandWrite_of_idle _ idle]
  simp only [State.nextCycle_phase, State.nextCycle_sr, State.nextCycle_bitidx, State.nextCycle_cnt]
  refine ⟨rfl, rfl, rfl, fun hfit => ?_⟩
  obtain ⟨hpos, -, -, hle, -, -⟩ := hfit
  exact cntLoad_eq hpos hle

end tick

/-! ### Runs -/

/-- No run changes the parameters (70_reset_and_hazards.md rule R233). -/
theorem after_params (n : Nat) (s : State) : (s.after n).params = s.params := by
  induction n with
  | zero => rfl
  | succ n ih => rw [State.after_succ, tick_params, ih]

/-- What the line shows `n` cycles on, without a reset (10_state.md rule R30). -/
theorem after_line_eq_dqAhead {s : State} {n : Nat} (hno : s.NoReset n) : (s.after n).dqSync.line = s.dqAhead n := by
  match n with
  | 0 => rfl
  | 1 =>
    rw [State.after_succ, (tick_synchronisers (hno 0 (by omega))).1]
    rfl
  | n + 2 =>
    rw [State.after_succ, (tick_synchronisers (hno (n + 1) (by omega))).1, State.after_succ,
      (tick_synchronisers (hno n (by omega))).1]
    rfl

/-- Without a sample a run leaves the bits and their number alone. -/
theorem after_bits_of_noSample {s : State} {n : Nat} (hno : s.NoReset n)
    (hquiet : ∀ k < n, (s.after k).phase ≠ .idle ∧ (s.after k).phase ≠ .fSample) :
    (s.after n).sr = s.sr ∧ (s.after n).bitidx = s.bitidx := by
  induction n with
  | zero => exact ⟨rfl, rfl⟩
  | succ n ih =>
    obtain ⟨hsr, hidx⟩ := ih (hno.mono n.le_succ) fun k hk => hquiet k (Nat.lt_succ_of_lt hk)
    obtain ⟨busy, hsample⟩ := hquiet n n.lt_succ_self
    obtain ⟨hsr', hidx'⟩ := tick_bits_of_noSample (hno n n.lt_succ_self) busy hsample
    exact ⟨hsr'.trans hsr, hidx'.trans hidx⟩

/-- A wait phase of ACQ lasts as long as the line does not show the level `l` it waits for. -/
theorem after_phase_of_wait {s : State} {p : Phase} {l : Bool} (hp : s.phase = p) (hfd : p.inFd = true)
    (hstay : ∀ c i, p.acqNext (!l) c i = p) {n : Nat} (hno : s.NoReset n)
    (hline : ∀ k < n, (s.after k).dqSync.line = !l) : (s.after n).phase = p := by
  induction n with
  | zero => exact hp
  | succ n ih =>
    have ih := ih (hno.mono n.le_succ) fun k hk => hline k (Nat.lt_succ_of_lt hk)
    rw [State.after_succ, tick_phase_of_acq (hno n n.lt_succ_self) ih hfd, hline n n.lt_succ_self, hstay]

/-- A run's part after its first `m` cycles has no reset either. -/
theorem State.NoReset.after {s : State} {m n : Nat} (h : s.NoReset (m + n)) : (s.after m).NoReset n := fun k hk => by
  rw [← State.after_add]; exact h (m + k) (by omega)

section delay

variable {s : State} {p q : Phase} (hp : s.phase = p) (busy : p ≠ .idle)
  (hstep : ∀ u : State, u.phase = p → sequencerStep u = delay (State.goto q) u)
include hp busy hstep

/-- While the counter of a delay phase is not exhausted it counts down in the phase (00_scope.md rule R12). -/
theorem after_of_delay {n : Nat} (hn : n ≤ s.cnt) (hno : s.NoReset n) :
    (s.after n).phase = p ∧ (s.after n).cnt = s.cnt - n := by
  induction n with
  | zero => exact ⟨hp, rfl⟩
  | succ n ih =>
    obtain ⟨hphase, hcnt⟩ := ih (Nat.le_of_succ_le hn) (hno.mono n.le_succ)
    have hr := hno n n.lt_succ_self
    have hne : (s.after n).phase ≠ .idle := by rw [hphase]; exact busy
    have hcount := (hstep _ hphase).trans (delay_of_cnt_pos _ (by omega : (s.after n).cnt ≠ 0))
    rw [State.after_succ, tick_phase_of_busy hr hne, tick_cnt_of_busy hr hne, hcount]
    exact ⟨hphase, by show (s.after n).cnt - 1 = _; omega⟩

/-- A delay phase entered with the counter at `c` lasts `c + 1` cycles (00_scope.md rule R12). -/
theorem after_phase_of_delay {n : Nat} (hn : n ≤ s.cnt + 1) (hno : s.NoReset n) :
    (s.after n).phase = if n ≤ s.cnt then p else q := by
  split
  · next h => exact (after_of_delay hp busy hstep h hno).1
  · next h =>
    obtain rfl : n = s.cnt + 1 := by omega
    obtain ⟨hphase, hcnt⟩ := after_of_delay hp busy hstep le_rfl (hno.mono (Nat.le_succ _))
    rw [State.after_succ, tick_phase_of_busy (hno _ (Nat.lt_succ_self _)) (by rw [hphase]; exact busy), hstep _ hphase,
      delay_of_cnt_zero _ (by omega), State.goto_phase]

end delay

/-- From the wait for a rise that is seen in cycle `j`: F_RISE_HIGH up to that cycle, `T_SAMPLE_CYC` cycles of F_DELAY, then
F_SAMPLE (42_frame_decoder.md rule R156). -/
theorem after_phase_of_rise {s : State} {j : Nat} (hp : s.phase = .fRiseHigh) (hfit : s.params.DelaysFit)
    (hlow : ∀ k < j, (s.after k).dqSync.line = false) (hhigh : (s.after j).dqSync.line = true)
    {n : Nat} (hn : n ≤ j + s.params.tSampleCyc + 1) (hno : s.NoReset n) :
    (s.after n).phase = if n ≤ j then .fRiseHigh else if n ≤ j + s.params.tSampleCyc then .fDelay else .fSample := by
  have hwait {m : Nat} (hm : m ≤ j) (hno : s.NoReset m) : (s.after m).phase = .fRiseHigh :=
    after_phase_of_wait (l := true) hp rfl (fun _ _ => rfl) hno fun k hk => hlow k (by omega)
  by_cases hnj : n ≤ j
  · rw [if_pos hnj, hwait hnj hno]
  · obtain ⟨m, rfl⟩ : ∃ m, n = (j + 1) + m := ⟨n - (j + 1), by omega⟩
    have hr : (s.after j).ports.rst = false := hno j (by omega)
    have hrise := hwait le_rfl (hno.mono (by omega))
    have hdelay : (s.after (j + 1)).phase = .fDelay := by
      rw [State.after_succ, tick_phase_of_acq hr hrise rfl, hhigh]; rfl
    have hcnt : (s.after (j + 1)).cnt = s.params.tSampleCyc - 1 := by
      rw [State.after_succ, tick_cnt_of_busy hr (by rw [hrise]; nofun),
        sequencerStep_cnt_of_rise hrise hhigh (by rw [after_params]; exact hfit), after_params]
    obtain ⟨-, hpos, -⟩ := hfit
    rw [if_neg hnj, State.after_add, after_phase_of_delay (q := .fSample) hdelay nofun
      (fun u hu => by simp [sequencerStep, hu, fDelay]) (by omega) hno.after, hcnt]
    exact if_congr (by omega) rfl rfl

/-- The sample of that rise: the level `T_SAMPLE_CYC + 1` cycles after it is shifted in (42_frame_decoder.md rule R157). -/
theorem after_bits_of_rise {s : State} {j : Nat} (hp : s.phase = .fRiseHigh) (hfit : s.params.DelaysFit)
    (hlow : ∀ k < j, (s.after k).dqSync.line = false) (hhigh : (s.after j).dqSync.line = true)
    (hno : s.NoReset (j + s.params.tSampleCyc + 2)) :
    (s.after (j + s.params.tSampleCyc + 2)).phase = .fFall ∧
    (s.after (j + s.params.tSampleCyc + 2)).sr = shiftIn s.sr (s.after (j + s.params.tSampleCyc + 1)).dqSync.line ∧
    (s.after (j + s.params.tSampleCyc + 2)).bitidx = s.bitidx + 1 := by
  have hphase {n : Nat} (hn : n ≤ j + s.params.tSampleCyc + 1) :=
    after_phase_of_rise hp hfit hlow hhigh hn (hno.mono (by omega))
  have hsample : (s.after (j + s.params.tSampleCyc + 1)).phase = .fSample := by
    rw [hphase le_rfl, if_neg (by omega), if_neg (by omega)]
  obtain ⟨hsr, hidx⟩ := after_bits_of_noSample (hno.mono (Nat.le_succ _)) fun k hk => by
    rw [hphase (Nat.le_of_lt hk)]
    split
    · exact ⟨nofun, nofun⟩
    · rw [if_pos (by omega)]; exact ⟨nofun, nofun⟩
  have hr := hno _ (Nat.lt_succ_self _)
  obtain ⟨hsr', hidx'⟩ := tick_bits_of_sample hr hsample
  rw [hsr] at hsr'
  rw [hidx] at hidx'
  exact ⟨tick_phase_of_acq hr hsample rfl, hsr', hidx'⟩

/-! ### The bits of a frame as a number (42_frame_decoder.md rule R159) -/

theorem bitsValue_concat (bits : List Bool) (b : Bool) : bitsValue (bits ++ [b]) = Nat.bit b (bitsValue bits) := by
  rw [Nat.bit_val, bitsValue, List.foldl_append]
  rfl

theorem bitsValue_lt (bits : List Bool) : bitsValue bits < 2 ^ bits.length := by
  induction bits using List.reverseRecOn with
  | nil => decide
  | append_singleton bits b ih =>
    have hb := Bool.toNat_lt b
    rw [bitsValue_concat, Nat.bit_val, List.length_append, List.length_singleton, Nat.pow_succ]
    omega

/-- The first bit is the most significant one. -/
theorem bitsValue_testBit (bits : List Bool) {j : Nat} (hj : j < bits.length) :
    (bitsValue bits).testBit (bits.length - 1 - j) = bits.getD j false := by
  induction bits using List.reverseRecOn with
  | nil => cases hj
  | append_singleton bits b ih =>
    rw [List.length_append, List.length_singleton] at hj ⊢
    rw [bitsValue_concat]
    by_cases hlast : j = bits.length
    · rw [hlast, Nat.add_sub_cancel, Nat.sub_self, Nat.testBit_bit_zero, List.getD_append_right _ _ _ _ le_rfl, Nat.sub_self]
      rfl
    · rw [show bits.length + 1 - 1 - j = bits.length - 1 - j + 1 by omega, Nat.testBit_bit_succ, ih (by omega),
        List.getD_append _ _ _ _ (by omega)]

/-- Up to 40 bits, shifted one by one into an empty frame, are their number: none is shifted out. -/
theorem foldl_shiftIn_toNat (bits : List Bool) (h : bits.length ≤ 40) :
    (bits.foldl shiftIn 0).toNat = bitsValue bits := by
  induction bits using List.reverseRecOn with
  | nil => rfl
  | append_singleton bits b ih =>
    have hlt := Nat.lt_of_lt_of_le (bitsValue_lt (bits ++ [b])) (Nat.pow_le_pow_right (by decide) h)
    rw [bitsValue_concat, Nat.bit_val] at hlt ⊢
    rw [List.length_append] at h
    rw [List.foldl_append, List.foldl_cons, List.foldl_nil, shiftIn_toNat, ih (by omega), Nat.mod_eq_of_lt hlt]

end Sys2Proof.Machine
end

section
/-! PROOFS of the statements of 42_frame_decoder.md on single edges, on the lengths of the delays, on the sample's bit, and on the
bits of a whole ACQ. -/

namespace Sys2Proof.Machine

/-! ### One edge -/

/-- Settles O18: in IDLE the edge is the acceptance and the synchronisers' shift; within R8's constraints the counter's load is
`T_START_CYC - 1`. -/
theorem acqAcceptanceStartsTheStartPulse : Obligations.AcqAcceptanceStartsTheStartPulse := by
  refine ⟨⟨by decide, rfl⟩, fun s idle => ⟨cntLoad s.params.cntW s.params.tStartCyc, ?_, fun hfit => ?_⟩⟩
  · rw [← readVal_cmd, exec_of_idle .acq idle, writeEffect, commandWrite_of_idle _ idle]
    rfl
  · obtain ⟨hpos, -, -, hle, -, -⟩ := hfit
    exact cntLoad_eq hpos hle

/-- Settles O25: each wait's next phase is `Phase.acqNext`, and no bit is sampled and no frame ends in the waits. -/
theorem acknowledgePhasesFollowTheLine : Obligations.AcknowledgePhasesFollowTheLine := by
  refine ⟨⟨rfl, rfl, rfl⟩, fun i s => ⟨_, exec_eq i s, fun hp => hostCycle_phase_of_acq i hp rfl,
    fun hp => hostCycle_phase_of_acq i hp rfl, fun hp => hostCycle_phase_of_acq i hp rfl, fun hp => ?_⟩⟩
  rcases hp with hp | hp | hp <;>
    exact hostCycle_frame_of_quiet i (by rw [hp]; nofun) (by rw [hp]; nofun) (by rw [hp]; nofun)

/-- Settles O26: the next phase is `Phase.acqNext`, the counter is loaded at the rise and counts down in the delay. -/
theorem risePhasesFollowTheLine : Obligations.RisePhasesFollowTheLine := by
  refine ⟨⟨rfl, rfl, rfl⟩, fun i s => ⟨_, exec_eq i s, fun hp => hostCycle_phase_of_acq i hp rfl, fun hp => ?_, fun hp => ?_,
    fun hp => ?_⟩⟩
  · have hnext := hostCycle_phase_of_acq i hp rfl
    have hcnt := hostCycle_cnt_of_busy i (s := s) (by rw [hp]; nofun)
    exact ⟨fun high => ⟨hnext.trans (if_pos high), fun hfit => hcnt.trans (sequencerStep_cnt_of_rise hp high hfit)⟩,
      fun low => hnext.trans (if_neg (by rw [low]; nofun))⟩
  · have hnext := hostCycle_phase_of_acq i hp rfl
    have hcnt := hostCycle_cnt_of_busy i (s := s) (by rw [hp]; nofun)
    exact ⟨fun last => hnext.trans (if_pos last),
      fun more => ⟨hnext.trans (if_neg more), hcnt.trans (sequencerStep_cnt_of_delay hp more)⟩⟩
  · rcases hp with hp | hp | hp <;>
      exact hostCycle_frame_of_quiet i (by rw [hp]; nofun) (by rw [hp]; nofun) (by rw [hp]; nofun)

/-- Settles O27: the edge is F_SAMPLE's step, whose shift is the doubling and whose count has 6 bits. -/
theorem samplePhaseShiftsTheLineIn : Obligations.SamplePhaseShiftsTheLineIn := by
  refine ⟨rfl, fun i s hp => ⟨_, exec_eq i s, ?_, ?_, hostCycle_phase_of_acq i hp rfl, ?_, ?_⟩⟩
  all_goals have busy : s.phase ≠ .idle := by rw [hp]; nofun
  · rw [hostCycle_sr_of_busy i busy, sequencerStep_of_sample hp]
    exact shiftIn_eq_ofNat _ _
  · rw [hostCycle_bitidx_of_busy i busy, sequencerStep_of_sample hp]
    exact BitVec.toNat_add _ _
  · rw [hostCycle_frameRdy_of_busy i busy, sequencerStep_of_sample hp]
    rfl
  · exact hostCycle_op_of_busy i busy

/-- Settles O28: the next phase is `Phase.acqNext`; the cycle that leads to IDLE makes the frame ready, so that STATUS shows
it, and VALID is the checksum of the frame, which F_FALL keeps. -/
theorem fallPhaseEndsTheSlotOrTheFrame : Obligations.FallPhaseEndsTheSlotOrTheFrame := by
  refine ⟨rfl, fun i s hp => ⟨_, exec_eq i s, ?_⟩⟩
  have busy : s.phase ≠ .idle := by rw [hp]; nofun
  have hnext := hostCycle_phase_of_acq i hp rfl
  have hrdy := (hostCycle_frameRdy_of_busy i busy).trans (sequencerStep_frameRdy_of_fall hp)
  obtain ⟨hsr, hidx, hop⟩ := hostCycle_bits_of_noSample i busy (by rw [hp]; nofun)
  refine ⟨fun high => ⟨hnext.trans (if_pos high), hrdy.trans (if_neg (by simp [high]))⟩, fun low all => ?_,
    fun low more => ⟨?_, hrdy.trans (if_neg fun h => more h.2)⟩, hsr, hidx, hop⟩
  · have hidle := hnext.trans ((if_neg (by simp [low])).trans (if_pos all))
    have hready := hrdy.trans (if_pos ⟨low, all⟩)
    refine ⟨hidle, hready, ?_, ?_, ?_⟩ <;> rw [State.status_getLsbD]
    · exact (State.busy_eq_false_iff _).mpr hidle
    · exact hready
    · exact (congrArg₂ and hready (State.chkOk_congr hsr)).trans (Bool.true_and _)
  · exact hnext.trans ((if_neg (by simp [low])).trans (if_neg more))

/-! ### The delays -/

/-- From ACQ's acceptance F_START takes `T_START_CYC` cycles, and F_ACK_REL follows (42_frame_decoder.md rule R153). -/
theorem after_phase_of_acq {s : State} (idle : s.phase = .idle) (hacq : s.presented = .acq) (hfit : s.params.DelaysFit)
    {k : Nat} (hk : k ≤ s.params.tStartCyc) (hno : s.NoReset (k + 1)) :
    (s.after (k + 1)).phase = if k < s.params.tStartCyc then .fStart else .fAckRel := by
  obtain ⟨hstart, -, -, hcnt⟩ := tick_of_acq (s := s) (hno 0 k.succ_pos) idle hacq
  obtain ⟨hpos, -⟩ := id hfit
  have hno : s.tick.NoReset k := State.NoReset.after (m := 1) (by rwa [Nat.add_comm])
  rw [State.after_succ', after_phase_of_delay (q := .fAckRel) hstart nofun
    (fun u hu => by simp [sequencerStep, hu, fStart]) (by rw [hcnt hfit]; omega) hno, hcnt hfit]
  exact if_congr (by omega) rfl rfl

/-- A run pulls the line low in at least `n` of its cycles if it does in its cycles 1 to `n`. -/
theorem State.le_lows {s : State} {n : Nat} (hdrive : ∀ k < n, (s.after (k + 1)).dqDriveLow = true) :
    n ≤ s.lows (n + 1) := by
  induction n with
  | zero => exact Nat.zero_le _
  | succ n ih =>
    rw [State.lows, if_pos (hdrive n n.lt_succ_self)]
    exact Nat.succ_le_succ (ih fun k hk => hdrive k (Nat.lt_succ_of_lt hk))

/-- Settles O50: each cycle in F_START without reset pulls the line low, and there are `T_START_CYC` of them. -/
theorem startPulseLastsExactly : Obligations.StartPulseLastsExactly := by
  intro s idle hacq hfit hno
  have hphase {k : Nat} (hk : k ≤ s.params.tStartCyc) :=
    after_phase_of_acq idle hacq hfit hk (hno.mono (Nat.succ_le_succ hk))
  have hstart {k : Nat} (hk : k < s.params.tStartCyc) : (s.after (k + 1)).phase = .fStart := by
    rw [hphase (Nat.le_of_lt hk), if_pos hk]
  have hdrive : ∀ k < s.params.tStartCyc, (s.after (k + 1)).dqDriveLow = true := fun k hk => by
    obtain ⟨hlow, -⟩ := (outputsFollowThePhaseAndReset (s.after (k + 1))).1 (hno (k + 1) (Nat.succ_lt_succ hk))
    exact hlow.mpr (hstart hk)
  have hend : (s.after (s.params.tStartCyc + 1)).phase = .fAckRel := by rw [hphase le_rfl, if_neg (Nat.lt_irrefl _)]
  refine ⟨fun k hk1 hk => ?_, hend, by simp [State.dqDriveLow, hend], fun hlong => ?_⟩
  · obtain ⟨k, rfl⟩ := Nat.exists_eq_add_of_le' hk1
    exact ⟨hstart hk, hdrive k hk⟩
  · obtain ⟨-, hlong⟩ := hlong
    exact hlong.trans (Nat.mul_le_mul_left _ (State.le_lows hdrive))

/-- Settles O51: the rise is seen in cycle 0. -/
theorem sampleComesAFixedTimeAfterTheRise : Obligations.SampleComesAFixedTimeAfterTheRise := by
  intro s hp hline hfit hno
  have hphase {n : Nat} (hn : n ≤ s.params.tSampleCyc + 1) :=
    after_phase_of_rise (j := 0) hp hfit nofun hline (by omega) (hno.mono hn)
  refine ⟨fun k hk1 hk => ?_, ?_⟩
  · rw [hphase (by omega), if_neg (by omega), if_pos (by omega)]
  · rw [hphase le_rfl, if_neg (by omega), if_neg (by omega)]

/-- A phase of `w` nanoseconds that covers `h` edges is on the side of the sample point that its class is on
(42_frame_decoder.md rule R160). -/
theorem width_of_discriminates {p : Params} {w0max w1min w h : Nat} (hd : p.Discriminates w0max w1min)
    (hmin : h * 1000000000 ≤ w * p.fClk + 1000000000) (hmax : w * p.fClk ≤ (h + 1) * 1000000000) :
    (w ≤ w0max → h < p.tSampleCyc + 2) ∧ (w1min ≤ w → p.tSampleCyc + 2 ≤ h) := by
  obtain ⟨h0, h1⟩ := hd
  constructor
  · intro hw
    have := Nat.mul_le_mul_right p.fClk hw
    omega
  · intro hw
    have := Nat.mul_le_mul_right p.fClk hw
    omega

/-- Settles O56: the sample reads the level `T_SAMPLE_CYC + 1` cycles after the rise is seen, which is still high exactly when the
phase covers one edge more than that. -/
theorem pulseWidthDecidesTheBit : Obligations.PulseWidthDecidesTheBit := by
  intro s j h hp hfit hh hno hbefore hhigh hafter
  have hline {k : Nat} (hk : k ≤ j + s.params.tSampleCyc + 1) : (s.after k).dqSync.line = s.dqAhead k :=
    after_line_eq_dqAhead (hno.mono (by omega))
  have hlow : ∀ k < j, (s.after k).dqSync.line = false := fun k hk => (hline (by omega)).trans (hbefore k hk)
  have hrise : (s.after j).dqSync.line = true := (hline (by omega)).trans (hhigh j le_rfl (by omega))
  have hbit : (s.after (j + s.params.tSampleCyc + 1)).dqSync.line = decide (s.params.tSampleCyc + 2 ≤ h) := by
    rw [hline le_rfl]
    by_cases hwide : s.params.tSampleCyc + 2 ≤ h
    · rw [hhigh _ (by omega) (by omega), decide_eq_true hwide]
    · rw [hafter _ (by omega) le_rfl, decide_eq_false hwide]
  obtain ⟨-, hsr, hidx⟩ := after_bits_of_rise hp hfit hlow hrise hno
  rw [hbit, shiftIn_eq_ofNat] at hsr
  have hlsb : (s.after (j + s.params.tSampleCyc + 2)).sr.getLsbD 0 = decide (s.params.tSampleCyc + 2 ≤ h) := by
    rw [hsr, BitVec.getLsbD_ofNat, ← Nat.bit_val, Nat.testBit_bit_zero]
    rfl
  refine ⟨?_, hsr, hidx, fun w w0max w1min hd hmin hmax => ?_⟩
  · rw [after_phase_of_rise hp hfit hlow hrise le_rfl (hno.mono (by omega)), if_neg (by omega), if_neg (by omega)]
  · obtain ⟨hzero, hone⟩ := width_of_discriminates hd hmin hmax
    rw [hlsb]
    exact ⟨fun hw => decide_eq_false (Nat.not_le.mpr (hzero hw)), fun hw => decide_eq_true (hone hw)⟩

/-! ### The bit-assembly law (42_frame_decoder.md rule R159) -/

/-- How many bits an ACQ can have sampled, by its phase; IDLE is its end. -/
def Phase.allowsCount (idx : Nat) : Phase → Prop
  | .fStart | .fAckRel | .fAckLow | .fAckHigh => idx = 0
  | .fRiseLow | .fRiseHigh | .fDelay | .fSample => idx < 40
  | .fFall => idx ≤ 40
  | .idle => idx = 40
  | _ => False

namespace Phase.allowsCount

variable {p : Phase} {idx : Nat} (h : p.allowsCount idx)
include h

theorem le : idx ≤ 40 := by
  cases p <;> simp only [Phase.allowsCount] at h <;> omega

theorem inFd (hp : p ≠ .idle) : p.inFd = true := by
  cases p
  case idle => exact absurd rfl hp
  case fStart | fAckRel | fAckLow | fAckHigh | fRiseLow | fRiseHigh | fDelay | fSample | fFall => rfl
  all_goals cases h

/-- A cycle without a sample leads to a phase that allows the same count. -/
theorem next (hp : p ≠ .fSample) (line : Bool) (cnt : Nat) : (p.acqNext line cnt idx).allowsCount idx := by
  cases p
  case fSample => exact absurd rfl hp
  all_goals
    simp only [Phase.acqNext]
    repeat' split
  all_goals simp only [Phase.allowsCount, Config.frameBits] at *
  all_goals omega

end Phase.allowsCount

/-- What holds `n` cycles after ACQ's acceptance: SR is the bits sampled so far shifted in, `bitidx` counts them, and the phase
allows that count. -/
structure State.Assembled (s : State) (n : Nat) : Prop where
  bits : (s.after n).sr = (s.samples n).foldl shiftIn 0
  count : (s.after n).bitidx.toNat = (s.samples n).length
  phase : (s.after n).phase.allowsCount (s.samples n).length

/-- At ACQ's acceptance no bit has been sampled. -/
theorem State.Assembled.start {s : State} (hr : s.ports.rst = false) (idle : s.phase = .idle) (hacq : s.presented = .acq) :
    s.Assembled 1 := by
  obtain ⟨hphase, hsr, hidx, -⟩ := tick_of_acq hr idle hacq
  have hnone : s.samples 1 = [] := by simp [State.samples, idle]
  constructor <;> rw [hnone, State.after_succ, State.after_zero]
  · exact hsr
  · rw [hidx]; rfl
  · rw [hphase]; rfl

/-- One cycle more of a running ACQ, with its sample or without one. -/
theorem State.Assembled.succ {s : State} {n : Nat} (h : s.Assembled n) (hr : (s.after n).ports.rst = false)
    (busy : (s.after n).phase ≠ .idle) : s.Assembled (n + 1) := by
  obtain ⟨hbits, hcount, hallowed⟩ := h
  have hnext := tick_phase_of_acq hr rfl (hallowed.inFd busy)
  by_cases hp : (s.after n).phase = .fSample
  · obtain ⟨hsr, hidx⟩ := tick_bits_of_sample hr hp
    have hlt : (s.samples n).length < 40 := by rw [hp] at hallowed; exact hallowed
    have hone : s.samples (n + 1) = s.samples n ++ [(s.after n).dqSync.line] := by rw [State.samples, if_pos hp]
    constructor <;> rw [hone, State.after_succ]
    · rw [hsr, hbits, List.foldl_append]; rfl
    · rw [hidx, List.length_append, List.length_singleton, ← hcount]
      bv_omega
    · rw [hnext, hp, List.length_append]; exact hlt
  · obtain ⟨hsr, hidx⟩ := tick_bits_of_noSample hr busy hp
    have hnone : s.samples (n + 1) = s.samples n := by rw [State.samples, if_neg hp, List.append_nil]
    constructor <;> rw [hnone, State.after_succ]
    · rw [hsr, hbits]
    · rw [hidx, hcount]
    · rw [hnext, hcount]; exact hallowed.next hp _ _

/-- Every cycle of an ACQ, from its acceptance on. -/
theorem assembled_of_acq {s : State} {n : Nat} (idle : s.phase = .idle) (hacq : s.presented = .acq) (hn : 1 ≤ n)
    (hno : s.NoReset n) (hbusy : ∀ k, 1 ≤ k → k < n → (s.after k).phase ≠ .idle) : s.Assembled n := by
  induction n, hn using Nat.le_induction with
  | base => exact .start (hno 0 Nat.one_pos) idle hacq
  | succ n hn ih =>
    exact (ih (hno.mono n.le_succ) fun k hk hkn => hbusy k hk (Nat.lt_succ_of_lt hkn)).succ (hno n n.lt_succ_self)
      (hbusy n hn n.lt_succ_self)

/-- An ACQ that has come to IDLE has its frame ready (42_frame_decoder.md rule R158). -/
theorem frameRdy_of_acqEnd {s : State} {n : Nat} (idle : s.phase = .idle) (hacq : s.presented = .acq) (hn : 1 ≤ n)
    (hno : s.NoReset n) (hbusy : ∀ k, 1 ≤ k → k < n → (s.after k).phase ≠ .idle) (hend : (s.after n).phase = .idle) :
    (s.after n).frameRdy = true := by
  obtain ⟨m, rfl⟩ := Nat.exists_eq_add_of_le' hn
  obtain rfl | hm := Nat.eq_zero_or_pos m
  · obtain ⟨hstart, -⟩ := tick_of_acq (s := s) (hno 0 Nat.one_pos) idle hacq
    cases hstart.symm.trans hend
  · have h := assembled_of_acq idle hacq hm (hno.mono m.le_succ) fun k hk hkm => hbusy k hk (Nat.lt_succ_of_lt hkm)
    exact (tick_of_acqEnd (hno m m.lt_succ_self) (h.phase.inFd (hbusy m hm m.lt_succ_self)) hend).2

/-- Settles O55: SR and `bitidx` are the samples shifted in and counted; at the end, which F_FALL comes to with 40 bits, each bit
of SR is the bit of the samples' number. -/
theorem bitsAreAssembledMostSignificantFirst : Obligations.BitsAreAssembledMostSignificantFirst := by
  intro s n idle hacq hn hno hbusy
  have h := assembled_of_acq idle hacq hn hno hbusy
  have hvalue : (s.after n).sr.toNat = bitsValue (s.samples n) := by rw [h.bits, foldl_shiftIn_toNat _ h.phase.le]
  refine ⟨hvalue, h.count, fun hend => ?_⟩
  have hlen : (s.samples n).length = 40 := by simpa [hend, Phase.allowsCount] using h.phase
  have hbit : ∀ j < 40, (s.after n).sr.getLsbD (39 - j) = (s.samples n).getD j false := fun j hj => by
    rw [← bitsValue_testBit _ (hlen.symm ▸ hj), hlen, ← hvalue, BitVec.testBit_toNat]
  have hbyte : ∀ c ≤ 32, ∀ j < 8,
      ((s.after n).sr.extractLsb' (32 - c) 8).getLsbD (7 - j) = (s.samples n).getD (c + j) false :=
    fun c hc j hj => by
      rw [← hbit (c + j) (by omega), BitVec.getLsbD_extractLsb', decide_eq_true (by omega : 7 - j < 8), Bool.true_and]
      congr 1
      omega
  refine ⟨hlen, frameRdy_of_acqEnd idle hacq hn hno hbusy hend, hbit, fun j hj => ⟨?_, hbyte 8 (by decide) j hj,
    hbyte 16 (by decide) j hj, hbyte 24 (by decide) j hj, hbyte 32 (by decide) j hj⟩⟩
  exact (hbyte 0 (by decide) j hj).trans (by rw [Nat.zero_add])

end Sys2Proof.Machine
end

section
/-! PROOF that a sensor which keeps the waveform contract has its frame received (42_frame_decoder.md rule R151): one rule for
each kind of phase says which levels of the line it takes, and the levels of a wave are taken phase by phase. -/

namespace Sys2Proof.Machine

/-! ### The levels to come -/

/-- From this cycle on, without a reset, the line shows the levels `ls`, one a cycle. -/
def State.Sees (s : State) (ls : List Bool) : Prop :=
  ∀ k (h : k < ls.length), (s.after k).ports.rst = false ∧ (s.after k).dqSync.line = ls[k]

namespace State.Sees

variable {s : State} {xs rest : List Bool} {l : Bool}

theorem noReset (h : s.Sees xs) : s.NoReset xs.length := fun k hk => (h k hk).1

theorem after (h : s.Sees (xs ++ rest)) : (s.after xs.length).Sees rest := fun k hk => by
  obtain ⟨hr, hline⟩ := h (xs.length + k) (by rw [List.length_append]; omega)
  rw [← State.after_add]
  exact ⟨hr, by rw [hline, List.getElem_append_right (Nat.le_add_right _ _)]; simp⟩

/-- The level after the levels `xs`, and what comes after it. -/
theorem split (h : s.Sees (xs ++ l :: rest)) : s.NoReset (xs.length + 1) ∧ (s.after xs.length).dqSync.line = l ∧
    (s.after (xs.length + 1)).Sees rest := by
  obtain ⟨-, hline⟩ := h.after 0 (Nat.succ_pos _)
  refine ⟨h.noReset.mono (by simp), hline, ?_⟩
  rw [List.append_cons] at h
  simpa using h.after

/-- The level of this cycle, and what comes after it. -/
theorem head (h : s.Sees (l :: rest)) : s.ports.rst = false ∧ s.dqSync.line = l ∧ s.tick.Sees rest := by
  obtain ⟨hr, hlevel, hrest⟩ := split (xs := []) h
  exact ⟨hr 0 Nat.one_pos, hlevel, hrest⟩

end State.Sees

/-! ### The rules -/

/-- An ACQ in phase `p` with `idx` bits in `sr`, before the levels `ls` of the line. -/
structure State.Receiving (s : State) (par : Params) (p : Phase) (sr : Frame) (idx : Nat) (ls : List Bool) : Prop where
  params : s.params = par
  phase : s.phase = p
  bits : s.sr = sr
  count : s.bitidx.toNat = idx
  line : s.Sees ls

/-- The ACQ of this state ends within `n` cycles with the frame `f`. -/
def State.Receives (s : State) (n : Nat) (f : Frame) : Prop :=
  ∃ k ≤ n, (∀ j < k, (s.after j).phase ≠ .idle) ∧ (s.after k).phase = .idle ∧ (s.after k).frameRdy = true ∧
    (s.after k).bitidx = 40 ∧ (s.after k).sr = f

/-- What ends within `n` cycles from a later state of the run ends as many cycles later from an earlier one. -/
theorem State.Receives.of_after {s : State} {m n : Nat} {f : Frame} (h : (s.after m).Receives n f)
    (busy : ∀ k < m, (s.after k).phase ≠ .idle) {total : Nat} (htotal : m + n = total) : s.Receives total f := by
  obtain ⟨k, hk, hbusy, hend⟩ := h
  rw [← State.after_add] at hend
  refine ⟨m + k, by omega, fun j hj => ?_, hend⟩
  by_cases hjm : j < m
  · exact busy j hjm
  · obtain ⟨i, rfl⟩ := Nat.exists_eq_add_of_le (Nat.le_of_not_lt hjm)
    rw [State.after_add]
    exact hbusy i (by omega)

/-- In phase `p`, with `idx` bits in `sr`, an ACQ ends with the frame `f` before the line has shown more than the levels `ls`. -/
def Decodes (par : Params) (f : Frame) (p : Phase) (sr : Frame) (idx : Nat) (ls : List Bool) : Prop :=
  ∀ s : State, s.Receiving par p sr idx ls → s.Receives ls.length f

namespace Decodes

variable {par : Params} {f sr : Frame} {p q : Phase} {idx : Nat} {rest : List Bool}

/-- One cycle without a sample takes one level. -/
theorem cycle {l : Bool} (hfd : p.inFd = true) (hsample : p ≠ .fSample) (hnext : ∀ c, p.acqNext l c idx = q)
    (h : Decodes par f q sr idx rest) : Decodes par f p sr idx (l :: rest) := by
  intro s ⟨hparams, hp, hbits, hcount, hline⟩
  obtain ⟨hr, hlevel, hrest⟩ := hline.head
  have busy : s.phase ≠ .idle := by rw [hp]; exact Phase.ne_idle_of_inFd hfd
  obtain ⟨hsr, hidx⟩ := tick_bits_of_noSample hr busy (by rw [hp]; exact hsample)
  have hphase : s.tick.phase = q := by rw [tick_phase_of_acq hr hp hfd, hlevel, hcount, hnext]
  refine (h s.tick ⟨by rw [tick_params, hparams], hphase, hsr.trans hbits, by rw [hidx, hcount], hrest⟩).of_after (m := 1)
    (fun k hk => ?_) (Nat.add_comm _ _)
  obtain rfl := Nat.lt_one_iff.mp hk
  exact busy

/-- A wait takes any number of the levels it does not wait for (00_scope.md rule R12). -/
theorem hold {l : Bool} (m : Nat) (hfd : p.inFd = true) (hstay : ∀ c i, p.acqNext (!l) c i = p)
    (h : Decodes par f p sr idx rest) : Decodes par f p sr idx (List.replicate m (!l) ++ rest) := by
  have hsample : p ≠ .fSample := by rintro rfl; cases hstay 0 0
  induction m with
  | zero => exact h
  | succ m ih => exact cycle hfd hsample (fun c => hstay c idx) ih

/-- A wait goes on with the first level that it waits for. -/
theorem wait {l : Bool} (m : Nat) (hfd : p.inFd = true) (hstay : ∀ c i, p.acqNext (!l) c i = p)
    (hexit : ∀ c, p.acqNext l c idx = q) (h : Decodes par f q sr idx rest) :
    Decodes par f p sr idx (List.replicate m (!l) ++ l :: rest) :=
  hold m hfd hstay (cycle hfd (by rintro rfl; cases hstay 0 0) hexit h)

/-- A rise is taken with the levels up to the sample, which shifts one of them in (42_frame_decoder.md rules R156 and R157). -/
theorem rise {j : Nat} {xs : List Bool} {b : Bool} (hfit : par.DelaysFit) (hidx : idx < 40)
    (hlen : xs.length = par.tSampleCyc) (h : Decodes par f .fFall (shiftIn sr b) (idx + 1) rest) :
    Decodes par f .fRiseHigh sr idx (List.replicate j false ++ true :: (xs ++ b :: rest)) := by
  refine hold (l := true) j rfl (fun _ _ => rfl) fun s ⟨hparams, hp, hbits, hcount, hline⟩ => ?_
  subst hparams
  obtain ⟨-, hhigh, -⟩ := hline.head
  obtain ⟨hno, hlevel, hrest⟩ := State.Sees.split (xs := true :: xs) hline
  rw [List.length_cons, hlen, ← Nat.zero_add s.params.tSampleCyc] at hno hlevel hrest
  obtain ⟨hphase, hsr, hidx'⟩ := after_bits_of_rise (j := 0) hp hfit nofun hhigh hno
  refine (h _ ⟨after_params _ s, hphase, by rw [hsr, hlevel, hbits], by rw [hidx']; bv_omega, hrest⟩).of_after
    (fun k hk => ?_) (by simp only [List.length_cons, List.length_append]; omega)
  rw [after_phase_of_rise (j := 0) hp hfit nofun hhigh (by omega) (hno.mono (by omega))]
  repeat' split
  all_goals nofun

/-- After 40 bits the first low level ends the ACQ (42_frame_decoder.md rule R158). -/
theorem done (m : Nat) : Decodes par f .fFall f 40 (List.replicate m true ++ false :: rest) := by
  refine hold (l := false) m rfl (fun _ _ => rfl) fun s ⟨_, hp, hbits, hcount, hline⟩ => ?_
  obtain ⟨hr, hlevel, -⟩ := hline.head
  have hend : s.tick.phase = .idle := by rw [tick_phase_of_acq hr hp rfl, hlevel, hcount]; rfl
  obtain ⟨hsr, hidx⟩ := tick_bits_of_noSample hr (by rw [hp]; nofun) (by rw [hp]; nofun)
  obtain ⟨-, hready⟩ := tick_of_acqEnd hr (by rw [hp]; rfl) hend
  refine ⟨1, by simp, fun k hk => ?_, hend, hready, hidx.trans (BitVec.eq_of_toNat_eq hcount), hsr.trans hbits⟩
  obtain rfl := Nat.lt_one_iff.mp hk
  rw [State.after_zero, hp]
  nofun

end Decodes

/-! ### The levels of a wave, slot by slot -/

/-- The width of the low phase that comes first in these bits: the first bit's, or, with no bit left, the one that ends the
frame. -/
def lowBefore (endLow : Nat) : List BitPulse → Nat
  | [] => endLow
  | c :: _ => c.low

/-- S3 for that low phase. -/
theorem le_lowBefore {t endLow : Nat} (hend : 3 ≤ endLow) {bits : List BitPulse} (hkeep : pulsesKeep t endLow bits) :
    3 ≤ lowBefore endLow bits := by
  cases bits with
  | nil => exact hend
  | cons c _ => exact hkeep.1

/-- The levels of the bits cut where their slots begin: at the last low level before a bit's high phase. -/
def slotLevels (endLow : Nat) : List BitPulse → List Bool
  | [] => []
  | b :: rest => false :: (List.replicate b.high true ++
      (List.replicate (lowBefore endLow rest - 1) false ++ slotLevels endLow rest))

/-- The slots' levels are those of the bits and of the frame's end, but for the last one. -/
theorem slotLevels_eq {t endLow : Nat} (hend : 3 ≤ endLow) (bits : List BitPulse) (hkeep : pulsesKeep t endLow bits) :
    List.replicate (lowBefore endLow bits - 1) false ++ slotLevels endLow bits ++ [false] =
      bits.flatMap BitPulse.levels ++ List.replicate endLow false := by
  induction bits with
  | nil =>
    obtain ⟨n, rfl⟩ := Nat.exists_eq_add_of_le' hend
    simp [lowBefore, slotLevels, ← List.replicate_succ']
  | cons b rest ih =>
    obtain ⟨hlow, -, -, -, -, hrest⟩ := hkeep
    have hcut : List.replicate (b.low - 1) false ++ [false] = List.replicate b.low false := by
      rw [← List.replicate_succ', Nat.sub_add_cancel (by omega)]
    rw [slotLevels, lowBefore, List.append_cons (List.replicate (b.low - 1) false), hcut, List.flatMap_cons, BitPulse.levels]
    simpa only [List.append_assoc, List.append_cancel_left_eq] using ih hrest

/-- In the levels from a bit's rise on, the one `t` levels after the first is the bit, and after it comes the low phase's part
that F_FALL takes: S4 and S5 of 42_frame_decoder.md rule R151 put the sample inside the high phase of a 1 and inside the low phase
after a 0. -/
theorem pulse_split {t low : Nat} {b : BitPulse} (hhigh : 3 ≤ b.high) (hlow : 3 ≤ low)
    (hone : b.bit = true → t + 2 ≤ b.high) (hzero : b.bit = false → b.high ≤ t + 1)
    (hpast : b.bit = false → t + 4 ≤ b.high + low) :
    ∃ xs m n, xs.length = t ∧ List.replicate b.high true ++ List.replicate (low - 1) false =
      true :: (xs ++ b.bit :: (List.replicate m true ++ false :: List.replicate n false)) := by
  cases hb : b.bit with
  | true =>
    obtain ⟨m, hm⟩ := Nat.exists_eq_add_of_le (hone hb)
    refine ⟨List.replicate t true, m, low - 2, List.length_replicate, ?_⟩
    rw [show b.high = 1 + t + 1 + m by omega, show low - 1 = 1 + (low - 2) by omega]
    simp only [List.replicate_add, List.replicate_one, List.append_assoc, List.cons_append, List.nil_append]
  | false =>
    have hhigh' := hzero hb
    have hpast' := hpast hb
    refine ⟨List.replicate (b.high - 1) true ++ List.replicate (t + 1 - b.high) false, 0, b.high + low - t - 4,
      by simp only [List.length_append, List.length_replicate]; omega, ?_⟩
    rw [show low - 1 = t + 1 - b.high + (1 + (1 + (b.high + low - t - 4))) by omega]
    nth_rw 1 [show b.high = 1 + (b.high - 1) by omega]
    simp only [List.replicate_add, List.replicate_one, List.append_assoc, List.cons_append, List.nil_append,
      List.replicate_zero]

/-- What the line shows of a wave from F_ACK_REL on: the driven low that is still in the synchroniser, then the wave, cut into
slots and without its last level, which comes too late to matter. -/
def SensorWave.seen (w : SensorWave) : List Bool :=
  List.replicate (2 + w.pullUp) false ++ (List.replicate w.idleHigh true ++ (List.replicate w.ackLow false ++
    (List.replicate w.ackHigh true ++ (List.replicate (lowBefore w.endLow w.bits - 1) false ++ slotLevels w.endLow w.bits))))

theorem SensorWave.seen_concat {t : Nat} {w : SensorWave} (hkeeps : w.Keeps t) :
    w.seen ++ [false] = false :: false :: w.levels := by
  have hbits := slotLevels_eq hkeeps.endLow w.bits hkeeps.pulses
  rw [List.append_assoc] at hbits
  simp only [SensorWave.seen, SensorWave.levels, List.append_assoc, hbits, List.replicate_add]
  rfl

theorem SensorWave.seen_length {t : Nat} {w : SensorWave} (hkeeps : w.Keeps t) : w.seen.length = w.levels.length + 1 := by
  simpa using congrArg List.length (SensorWave.seen_concat hkeeps)

/-- A run that plays the wave from F_ACK_REL on shows it on the line (10_state.md rule R30). -/
theorem sees_of_wave {s : State} {t : Nat} {w : SensorWave} (hkeeps : w.Keeps t) (hsync : s.dqSync = ⟨false, false⟩)
    (hno : s.NoReset (w.levels.length + 1)) (hplay : ∀ k < w.levels.length, some (s.after k).ports.dqIn = w.levels[k]?) :
    s.Sees w.seen := by
  have hconcat := SensorWave.seen_concat hkeeps
  have hlen := SensorWave.seen_length hkeeps
  intro k hk
  have hlevel : w.seen[k]? = (false :: false :: w.levels)[k]? := by rw [← hconcat, List.getElem?_append_left hk]
  refine ⟨hno k (hlen ▸ hk), ?_⟩
  rw [after_line_eq_dqAhead (hno.mono (by omega)), ← Option.some_inj, ← List.getElem?_eq_getElem hk, hlevel]
  match k with
  | 0 | 1 => simp [State.dqAhead, hsync]
  | k + 2 => exact hplay k (by omega)

/-! ### The slots -/

namespace Decodes

variable {par : Params} {f sr : Frame} {idx : Nat}

/-- One slot, from the wait for its low level to its fall (42_frame_decoder.md rules R156 to R158). -/
theorem slot {b : BitPulse} {low : Nat} {more : List Bool} (hfit : par.DelaysFit) (hidx : idx < 40) (hhigh : 3 ≤ b.high)
    (hlow : 3 ≤ low) (hone : b.bit = true → par.tSampleCyc + 2 ≤ b.high)
    (hzero : b.bit = false → b.high ≤ par.tSampleCyc + 1)
    (hpast : b.bit = false → par.tSampleCyc + 4 ≤ b.high + low)
    (h : ∀ m n, Decodes par f .fFall (shiftIn sr b.bit) (idx + 1)
      (List.replicate m true ++ false :: (List.replicate n false ++ more))) (a n : Nat) :
    Decodes par f .fRiseLow sr idx (List.replicate a true ++ (List.replicate n false ++
      false :: (List.replicate b.high true ++ (List.replicate (low - 1) false ++ more)))) := by
  obtain ⟨xs, m, k, hlen, hsplit⟩ := pulse_split hhigh hlow hone hzero hpast
  have hcons (ls : List Bool) : List.replicate n false ++ false :: ls = false :: (List.replicate n false ++ ls) := by
    rw [List.append_cons, ← List.replicate_succ', List.replicate_succ, List.cons_append]
  have hlevels : List.replicate b.high true ++ (List.replicate (low - 1) false ++ more) =
      true :: (xs ++ b.bit :: (List.replicate m true ++ false :: (List.replicate k false ++ more))) := by
    rw [← List.append_assoc, hsplit]
    simp only [List.append_assoc, List.cons_append]
  rw [hcons, hlevels]
  exact wait (l := false) a rfl (fun _ _ => rfl) (fun _ => rfl) (rise hfit hidx hlen (h m k))

/-- From a bit's fall: the slots that are left, and the end of the frame. -/
theorem slots {endLow : Nat} (hfit : par.DelaysFit) (hend : 3 ≤ endLow) (bits : List BitPulse) :
    ∀ (sr : Frame) (idx m n : Nat), pulsesKeep par.tSampleCyc endLow bits → idx + bits.length = 40 →
      Decodes par ((bits.map BitPulse.bit).foldl shiftIn sr) .fFall sr idx
        (List.replicate m true ++ false :: (List.replicate n false ++ slotLevels endLow bits)) := by
  induction bits with
  | nil =>
    intro sr idx m n _ hcount
    obtain rfl : idx = 40 := hcount
    exact done m
  | cons b rest ih =>
    intro sr idx m n hkeep hcount
    obtain ⟨-, hhigh, hone, hzero, hpast, hrest⟩ := hkeep
    rw [List.length_cons] at hcount
    exact wait (l := false) (q := .fRiseLow) m rfl (fun _ _ => rfl) (fun _ => if_neg (by omega : idx ≠ 40))
      (slot hfit (by omega) hhigh (le_lowBefore hend hrest) hone hzero hpast
        (fun m n => ih _ _ m n hrest (by omega)) 0 n)

/-- From F_ACK_REL: the handshake, then the first slot and those that are left (42_frame_decoder.md rules R154 and R155). -/
theorem wave {w : SensorWave} (hfit : par.DelaysFit) (hkeeps : w.Keeps par.tSampleCyc) :
    Decodes par ((w.bits.map BitPulse.bit).foldl shiftIn 0) .fAckRel 0 0 w.seen := by
  obtain ⟨hidle, hackLow, hackHigh, hend, hcount, hkeep⟩ := hkeeps
  obtain ⟨i, hi⟩ := Nat.exists_eq_add_of_le' hidle
  obtain ⟨l, hl⟩ := Nat.exists_eq_add_of_le' hackLow
  obtain ⟨h, hh⟩ := Nat.exists_eq_add_of_le' hackHigh
  rw [SensorWave.seen, hi, hl, hh]
  refine wait (l := true) (q := .fAckLow) _ rfl (fun _ _ => rfl) (fun _ => rfl) ?_
  refine wait (l := false) (q := .fAckHigh) _ rfl (fun _ _ => rfl) (fun _ => rfl) ?_
  refine wait (l := true) (q := .fRiseLow) _ rfl (fun _ _ => rfl) (fun _ => rfl) ?_
  generalize w.bits = bits at *
  cases bits with
  | nil => cases hcount
  | cons b rest =>
    obtain ⟨-, hhigh, hone, hzero, hpast, hrest⟩ := hkeep
    refine slot hfit (by decide) hhigh (le_lowBefore hend hrest) hone hzero hpast (fun m n => ?_) _ _
    exact slots hfit hend rest _ _ m n hrest (by simpa [Config.frameBits, Nat.add_comm] using hcount)

end Decodes

/-- Settles O57: the line shows the driven low and then the wave, in which the ACQ finds its end with the wave's bits shifted in,
and 40 bits are their number. -/
theorem contractWaveformIsReceived : Obligations.ContractWaveformIsReceived := by
  intro s w hp hsync hsr hidx hfit hkeeps hno hplay
  obtain ⟨n, hn, hbusy, hidle, hready, hcount, hbits⟩ :=
    Decodes.wave hfit hkeeps s ⟨rfl, hp, hsr, by rw [hidx]; rfl, sees_of_wave hkeeps hsync hno hplay⟩
  refine ⟨n, SensorWave.seen_length hkeeps ▸ hn, hbusy, hidle, hready, hcount, ?_⟩
  rw [hbits, foldl_shiftIn_toNat _ (by rw [List.length_map, hkeeps.count]; rfl)]

end Sys2Proof.Machine
end

section
/-! PROOFS of the statements of 43_checksum.md: ten bits hold the sum of four bytes exactly, and its low byte is compared. -/

namespace Sys2Proof.Machine

/-- Four bytes add up to at most 1020, so the 10-bit sum is exact (43_checksum.md rule R180). -/
theorem State.sum10_toNat (s : State) :
    s.sum10.toNat = s.b0.toNat + s.b1.toNat + s.b2.toNat + s.b3.toNat := by
  have h0 := s.b0.isLt
  have h1 := s.b1.isLt
  have h2 := s.b2.isLt
  have h3 := s.b3.isLt
  simp only [State.sum10, BitVec.toNat_add, BitVec.toNat_setWidth]
  omega

/-- Comparing with the sum's low byte is comparing modulo 256: the carry bits drop out (43_checksum.md rule R180). -/
theorem State.chkOk_eq_true_iff (s : State) :
    s.chkOk = true ↔ s.b4.toNat = (s.b0.toNat + s.b1.toNat + s.b2.toNat + s.b3.toNat) % 256 := by
  rw [State.chkOk, beq_iff_eq, ← BitVec.toNat_inj, BitVec.extractLsb'_toNat, Nat.shiftRight_zero, State.sum10_toNat]

/-- Settles O30: STATUS bit 2 is VALID, which is `frame_rdy` and CHK_OK. -/
theorem validIsTheChecksumLaw : Obligations.ValidIsTheChecksumLaw := by
  intro s
  have hbit : s.status.getLsbD 2 = (s.frameRdy && s.chkOk) := s.status_getLsbD 2
  exact ⟨s.chkOk_eq_true_iff, by rw [hbit, Bool.and_eq_true, s.chkOk_eq_true_iff]⟩

end Sys2Proof.Machine
end

section
/-! LAWS for the statements of 44_view_fsm.md: where POLL goes from each of its phases, what becomes of the view and the counter
there, one cycle of a run, and how long a debounce lasts. -/

namespace Sys2Proof.Machine

/-! ### POLL's phases (44_view_fsm.md rules R193 to R197) -/

/-- The phase after each phase of POLL, by the levels of `line(fwd_n)` and `line(bwd_n)` and the counter. -/
def Phase.pollNext (fwd bwd : Bool) (cnt : Nat) : Phase → Phase
  | .vCheck => if fwd = false then .vFdeb else if bwd = false then .vBdeb else .idle
  | .vFdeb => if cnt = 0 then .vFrel else .vFdeb
  | .vFrel => if fwd = true then .idle else .vFrel
  | .vBdeb => if cnt = 0 then .vBrel else .vBdeb
  | .vBrel => if bwd = true then .idle else .vBrel
  | p => p

/-- The view after each phase: the ends of the debounces move it, and nothing else does (10_state.md rule R32). -/
def Phase.pollView (cnt : Nat) (v : BitVec 2) : Phase → BitVec 2
  | .vFdeb => if cnt = 0 then viewForward v else v
  | .vBdeb => if cnt = 0 then viewBackward v else v
  | _ => v

/-- A phase of POLL is not IDLE. -/
theorem Phase.ne_idle_of_inVs {p : Phase} (h : p.inVs = true) : p ≠ .idle := by
  rintro rfl; cases h

/-- A debounce phase is not IDLE. -/
theorem Phase.ne_idle_of_debounce {p : Phase} (h : p = .vFdeb ∨ p = .vBdeb) : p ≠ .idle := by
  rcases h with rfl | rfl <;> nofun

/-- In POLL's phases the sequencer goes where `Phase.pollNext` says. -/
theorem sequencerStep_phase_of_poll {s : State} (h : s.phase.inVs = true) :
    (sequencerStep s).phase = s.phase.pollNext s.fwdSync.line s.bwdSync.line s.cnt := by
  unfold sequencerStep
  cases hp : s.phase
  case vCheck =>
    simp only [vCheck, Phase.pollNext, apply_ite State.phase, State.startDelay_phase, State.goto_phase]
  case vFdeb | vBdeb =>
    simp only [vFdeb, vBdeb, delay, Phase.pollNext, apply_ite State.phase, State.goto_phase, hp]
  case vFrel => cases hl : s.fwdSync.line <;> simp [vFrel, hl, Phase.pollNext, hp]
  case vBrel => cases hl : s.bwdSync.line <;> simp [vBrel, hl, Phase.pollNext, hp]
  all_goals rw [hp] at h; cases h

/-- In every phase the sequencer leaves the view that `Phase.pollView` says. -/
theorem sequencerStep_view (s : State) : (sequencerStep s).view = s.phase.pollView s.cnt s.view := by
  have hmove := (sequencerMove_sequencerStep s).view
  cases hp : s.phase
  case vFdeb => by_cases hc : s.cnt = 0 <;> simp [sequencerStep, hp, vFdeb, delay, hc, Phase.pollView]
  case vBdeb => by_cases hc : s.cnt = 0 <;> simp [sequencerStep, hp, vBdeb, delay, hc, Phase.pollView]
  all_goals exact hmove.resolve_right (by simp [hp])

/-- A press loads the counter (44_view_fsm.md rule R193), within 00_scope.md rule R8's constraints with `T_DEB_CYC - 1`. -/
theorem sequencerStep_cnt_of_press {s : State} (hp : s.phase = .vCheck)
    (press : s.fwdSync.line = false ∨ s.bwdSync.line = false) (hfit : s.params.DelaysFit) :
    (sequencerStep s).cnt = s.params.tDebCyc - 1 := by
  obtain ⟨-, -, hpos, -, -, hle⟩ := hfit
  simp only [sequencerStep, hp, vCheck]
  split
  · exact cntLoad_eq hpos hle
  · next released => rw [if_pos (press.resolve_left released)]; exact cntLoad_eq hpos hle

/-- The counter counts down in a debounce (00_scope.md rule R12). -/
theorem sequencerStep_cnt_of_debounce {s : State} (hp : s.phase = .vFdeb ∨ s.phase = .vBdeb) (hcnt : s.cnt ≠ 0) :
    (sequencerStep s).cnt = s.cnt - 1 := by
  rcases hp with hp | hp
  · simp [sequencerStep, hp, vFdeb, delay_of_cnt_pos _ hcnt]
  · simp [sequencerStep, hp, vBdeb, delay_of_cnt_pos _ hcnt]

/-- The forward step is the addition of 1 modulo 4 (44_view_fsm.md rule R194). -/
theorem viewForward_toNat (v : BitVec 2) : (viewForward v).toNat = (v.toNat + 1) % 4 := BitVec.toNat_add v 1#2

/-- The backward step is the subtraction of 1 modulo 4 (44_view_fsm.md rule R198). -/
theorem viewBackward_eq_sub_one (v : BitVec 2) : viewBackward v = v - 1 := by revert v; decide

/-! ### An edge of a POLL, whatever the host presents -/

section edge

variable (i : Instr) {s : State} {p : Phase} (hp : s.phase = p)
include hp

/-- The phase after an edge in POLL. -/
theorem hostCycle_phase_of_poll (hvs : p.inVs = true) :
    (hostCycle i.reg (writeEffect i) s).phase = p.pollNext s.fwdSync.line s.bwdSync.line s.cnt := by
  subst hp
  rw [hostCycle_phase, clockEdge_phase_of_busy i (Phase.ne_idle_of_inVs hvs), sequencerStep_phase_of_poll hvs]

/-- The view after an edge while BUSY. -/
theorem hostCycle_view_of_busy (busy : p ≠ .idle) :
    (hostCycle i.reg (writeEffect i) s).view = p.pollView s.cnt s.view := by
  subst hp
  exact (hostCycle_eq_sequencerStep i busy State.view fun _ _ _ _ _ _ _ _ => rfl).trans (sequencerStep_view s)

/-- The end of a debounce sets VIEW_CHG over the host's clear (60_exceptions.md rule R217 (c)). -/
theorem hostCycle_viewChg_of_debounceEnd (hdeb : p = .vFdeb ∨ p = .vBdeb) (last : s.cnt = 0) :
    (hostCycle i.reg (writeEffect i) s).viewChg = true := by
  subst hp
  obtain ⟨_, _, _, _, _, _, hw⟩ := writeEffect_of_busy i (Phase.ne_idle_of_debounce hdeb)
  simp [clockEdge_hostFields hw, hdeb, last]

end edge

/-! ### One cycle of a POLL -/

section tick

variable {s : State} {p : Phase} (hr : s.ports.rst = false) (hp : s.phase = p)
include hr hp

theorem tick_phase_of_poll (hvs : p.inVs = true) :
    s.tick.phase = p.pollNext s.fwdSync.line s.bwdSync.line s.cnt := by
  subst hp
  rw [tick_phase_of_busy hr (Phase.ne_idle_of_inVs hvs), sequencerStep_phase_of_poll hvs]

theorem tick_view_of_poll (busy : p ≠ .idle) : s.tick.view = p.pollView s.cnt s.view := by
  subst hp
  rw [tick_view_of_busy hr busy, sequencerStep_view]

/-- A debounce's cycles but the last: the counter counts down, and the view stays (44_view_fsm.md rules R194 and R196). -/
theorem tick_of_debounce (hdeb : p = .vFdeb ∨ p = .vBdeb) (more : s.cnt ≠ 0) :
    s.tick.phase = p ∧ s.tick.cnt = s.cnt - 1 ∧ s.tick.view = s.view := by
  have hcnt : s.tick.cnt = s.cnt - 1 :=
    (tick_cnt_of_busy hr (hp ▸ Phase.ne_idle_of_debounce hdeb)).trans (sequencerStep_cnt_of_debounce (hp ▸ hdeb) more)
  rcases hdeb with rfl | rfl <;>
    exact ⟨(tick_phase_of_poll hr hp rfl).trans (if_neg more), hcnt, (tick_view_of_poll hr hp nofun).trans (if_neg more)⟩

/-- A debounce's last cycle: the view's step, VIEW_CHG and the release wait (44_view_fsm.md rules R194 and R196). -/
theorem tick_of_debounceEnd {q : Phase} (hdeb : p = .vFdeb ∨ p = .vBdeb) (hend : ∀ fwd bwd, p.pollNext fwd bwd 0 = q)
    (last : s.cnt = 0) : s.tick.phase = q ∧ s.tick.view = p.pollView 0 s.view ∧ s.tick.viewChg = true := by
  have hvs : p.inVs = true := by rcases hdeb with rfl | rfl <;> rfl
  rw [tick_phase_of_poll hr hp hvs, tick_view_of_poll hr hp (Phase.ne_idle_of_inVs hvs), tick_viewChg hr, hp, last, hend]
  exact ⟨rfl, rfl, by simp [hdeb]⟩

end tick

/-- A release wait leaves the view alone, whether it goes on or ends the POLL (44_view_fsm.md rules R195 and R197). -/
theorem tick_of_release {s : State} (hr : s.ports.rst = false) (hp : s.phase = .vFrel ∨ s.phase = .vBrel) :
    (s.tick.phase = .vFrel ∨ s.tick.phase = .vBrel ∨ s.tick.phase = .idle) ∧ s.tick.view = s.view := by
  rcases hp with hp | hp
  all_goals
    refine ⟨?_, tick_view_of_poll hr hp nofun⟩
    rw [tick_phase_of_poll hr hp rfl]
  · cases s.fwdSync.line
    · exact .inl rfl
    · exact .inr (.inr rfl)
  · cases s.bwdSync.line
    · exact .inr (.inl rfl)
    · exact .inr (.inr rfl)

/-- V_CHECK's cycle with a press: the debounce `p` begins with its whole length to go (44_view_fsm.md rule R193). -/
theorem tick_of_press {s : State} {p : Phase} (hr : s.ports.rst = false) (hp : s.phase = .vCheck)
    (hfit : s.params.DelaysFit) (press : s.fwdSync.line = false ∨ s.bwdSync.line = false)
    (hstart : Phase.vCheck.pollNext s.fwdSync.line s.bwdSync.line s.cnt = p) :
    s.tick.phase = p ∧ s.tick.cnt = s.params.tDebCyc - 1 ∧ s.tick.view = s.view :=
  ⟨(tick_phase_of_poll hr hp rfl).trans hstart,
    (tick_cnt_of_busy hr (by rw [hp]; nofun)).trans (sequencerStep_cnt_of_press hp press hfit),
    tick_view_of_poll hr hp nofun⟩

/-- While the counter of a debounce is not exhausted, it counts down in the phase and the view stays, whatever the buttons and
the host do (44_view_fsm.md rules R194 and R196). -/
theorem after_of_debounce {s : State} {p : Phase} (hp : s.phase = p) (hdeb : p = .vFdeb ∨ p = .vBdeb) {n : Nat}
    (hn : n ≤ s.cnt) (hno : s.NoReset n) :
    (s.after n).phase = p ∧ (s.after n).cnt = s.cnt - n ∧ (s.after n).view = s.view := by
  induction n with
  | zero => exact ⟨hp, rfl, rfl⟩
  | succ n ih =>
    obtain ⟨hphase, hcnt, hview⟩ := ih (Nat.le_of_succ_le hn) (hno.mono n.le_succ)
    obtain ⟨hphase', hcnt', hview'⟩ := tick_of_debounce (hno n n.lt_succ_self) hphase hdeb (by omega)
    exact ⟨hphase', by rw [State.after_succ, hcnt', hcnt, Nat.sub_sub], hview'.trans hview⟩

end Sys2Proof.Machine
end

section
/-! PROOFS of the statements of 44_view_fsm.md: the phases of POLL one edge at a time, the debounce from V_CHECK to the view's
step, and the whole POLL by how far its one step of the view has come. -/

namespace Sys2Proof.Machine

/-! ### One edge -/

/-- Settles O19: in IDLE the edge is the acceptance and the synchronisers' shift. -/
theorem pollAcceptanceGoesToTheCheck : Obligations.PollAcceptanceGoesToTheCheck := by
  refine ⟨by decide, fun s idle => ?_⟩
  rw [← readVal_cmd, exec_of_idle .poll idle, writeEffect, commandWrite_of_idle _ idle]
  rfl

/-- Settles O33: the next phase is `Phase.pollNext`, and either button's press loads the counter. -/
theorem checkPhaseTakesForwardFirst : Obligations.CheckPhaseTakesForwardFirst := by
  refine ⟨rfl, fun i s hp => ⟨_, exec_eq i s, ?_⟩⟩
  have busy : s.phase ≠ .idle := by rw [hp]; nofun
  have hnext := hostCycle_phase_of_poll i hp rfl
  have hcnt press hfit := (hostCycle_cnt_of_busy i busy).trans (sequencerStep_cnt_of_press hp press hfit)
  exact ⟨fun fwd => ⟨hnext.trans (if_pos fwd), hcnt (.inl fwd)⟩,
    fun fwd bwd => ⟨hnext.trans ((if_neg (by rw [SyncChain.line, fwd]; nofun)).trans (if_pos bwd)), hcnt (.inr bwd)⟩,
    fun fwd bwd => hnext.trans (by rw [SyncChain.line, SyncChain.line, fwd, bwd]; rfl),
    hostCycle_view_of_busy i hp nofun, hostCycle_op_of_busy i busy⟩

/-- Settles O34: phase and view are `Phase.pollNext` and `Phase.pollView`, which read no button in a debounce. -/
theorem debouncePhasesMoveTheView : Obligations.DebouncePhasesMoveTheView := by
  refine ⟨⟨rfl, rfl⟩, fun i s => ⟨_, exec_eq i s, fun hp last => ⟨?_, ?_, ?_⟩, fun hp last => ⟨?_, ?_, ?_⟩,
    fun hdeb more => ?_⟩⟩
  · rw [hostCycle_view_of_busy i hp nofun, Phase.pollView, if_pos last, viewForward_toNat]
  · exact hostCycle_viewChg_of_debounceEnd i hp (.inl rfl) last
  · exact (hostCycle_phase_of_poll i hp rfl).trans (if_pos last)
  · exact (hostCycle_view_of_busy i hp nofun).trans (if_pos last)
  · exact hostCycle_viewChg_of_debounceEnd i hp (.inr rfl) last
  · exact (hostCycle_phase_of_poll i hp rfl).trans (if_pos last)
  · have hcnt := (hostCycle_cnt_of_busy i (Phase.ne_idle_of_debounce hdeb)).trans (sequencerStep_cnt_of_debounce hdeb more)
    rcases hdeb with hp | hp <;>
      exact ⟨(hostCycle_phase_of_poll i hp rfl).trans ((if_neg more).trans hp.symm), hcnt,
        (hostCycle_view_of_busy i hp nofun).trans (if_neg more)⟩

/-- Settles O35: the next phase is `Phase.pollNext`, and no release moves the view. -/
theorem releasePhasesWaitForTheButton : Obligations.ReleasePhasesWaitForTheButton := by
  refine ⟨⟨rfl, rfl⟩, fun i s => ⟨_, exec_eq i s, fun hp => hostCycle_phase_of_poll i hp rfl,
    fun hp => hostCycle_phase_of_poll i hp rfl, fun hp => ?_⟩⟩
  rcases hp with hp | hp <;> exact hostCycle_view_of_busy i hp nofun

/-! ### Index arithmetic -/

/-- `k` forward steps add `k` modulo 4 (44_view_fsm.md rule R198). -/
theorem viewForward_iterate_toNat (v : BitVec 2) (k : Nat) : (viewForward^[k] v).toNat = (v.toNat + k) % 4 := by
  induction k with
  | zero => exact (Nat.mod_eq_of_lt v.isLt).symm
  | succ k ih => rw [Function.iterate_succ_apply', viewForward_toNat, ih, Nat.mod_add_mod, Nat.add_assoc]

/-- Settles O36: the backward step adds 3, and 1 + 3 is 0 modulo 4. -/
theorem viewArithmeticIsCyclic : Obligations.ViewArithmeticIsCyclic := fun v =>
  ⟨viewForward_toNat v, by rw [viewBackward_eq]; exact BitVec.toNat_add v 3#2,
    by rw [viewBackward_eq_sub_one]; exact BitVec.add_sub_cancel v 1,
    by rw [viewBackward_eq_sub_one]; exact BitVec.sub_add_cancel v 1, viewForward_iterate_toNat v⟩

/-! ### From V_CHECK to the view's step -/

/-- A press that V_CHECK takes to the debounce `p`: `T_DEB_CYC` cycles of it with the view as it was, then the view's step,
VIEW_CHG and the release wait (44_view_fsm.md rules R193, R194, R196 and R201 (c)). -/
theorem after_of_press {s : State} {p q : Phase} (hp : s.phase = .vCheck) (hfit : s.params.DelaysFit)
    (hno : s.NoReset (s.params.tDebCyc + 1)) (press : s.fwdSync.line = false ∨ s.bwdSync.line = false)
    (hdeb : p = .vFdeb ∨ p = .vBdeb) (hstart : Phase.vCheck.pollNext s.fwdSync.line s.bwdSync.line s.cnt = p)
    (hend : ∀ fwd bwd, p.pollNext fwd bwd 0 = q) :
    (∀ k, 1 ≤ k → k ≤ s.params.tDebCyc → (s.after k).phase = p ∧ (s.after k).view = s.view) ∧
    (s.after (s.params.tDebCyc + 1)).phase = q ∧ (s.after (s.params.tDebCyc + 1)).view = p.pollView 0 s.view ∧
    (s.after (s.params.tDebCyc + 1)).viewChg = true := by
  obtain ⟨hphase, hcnt, hview⟩ := tick_of_press (s := s) (hno 0 (Nat.succ_pos _)) hp hfit press hstart
  obtain ⟨-, -, hpos, -⟩ := hfit
  have hcycle {k : Nat} (hk1 : 1 ≤ k) (hk : k ≤ s.params.tDebCyc) :
      (s.after k).phase = p ∧ (s.after k).cnt = s.params.tDebCyc - k ∧ (s.after k).view = s.view := by
    obtain ⟨m, rfl⟩ := Nat.exists_eq_add_of_le hk1
    have hm := after_of_debounce hphase hdeb (by omega) (State.NoReset.after (m := 1) (n := m) (hno.mono (by omega)))
    rwa [hcnt, hview, Nat.sub_sub, ← State.after_succ', Nat.add_comm m] at hm
  refine ⟨fun k hk1 hk => ?_, ?_⟩
  · obtain ⟨hphase, -, hview⟩ := hcycle hk1 hk
    exact ⟨hphase, hview⟩
  · obtain ⟨hphase, hcnt, hview⟩ := hcycle hpos le_rfl
    have hlast := tick_of_debounceEnd (hno _ (Nat.lt_succ_self _)) hphase hdeb hend (hcnt.trans (Nat.sub_self _))
    rwa [hview] at hlast

/-- Settles O52: a press is `after_of_press` in its direction, and without one V_CHECK leads to IDLE. -/
theorem pressIsActedOnAfterTheDebounce : Obligations.PressIsActedOnAfterTheDebounce := by
  intro s hp hfit hno
  refine ⟨fun fwd => ?_, fun fwd bwd => ?_, fun fwd bwd => ?_⟩
  · exact after_of_press hp hfit hno (.inl fwd) (.inl rfl) (by rw [fwd]; rfl) fun _ _ => rfl
  · rw [← viewBackward_eq_sub_one]
    exact after_of_press hp hfit hno (.inr bwd) (.inr rfl) (by rw [fwd, bwd]; rfl) fun _ _ => rfl
  · have hr : s.ports.rst = false := hno 0 (Nat.succ_pos _)
    have hnext := tick_phase_of_poll hr hp rfl
    rw [fwd, bwd] at hnext
    exact ⟨hnext, tick_view_of_poll hr hp nofun⟩

/-! ### A whole POLL -/

/-- The view at the end of a POLL, by what V_CHECK sees (44_view_fsm.md rule R201 (a)). -/
def State.pollTarget (s : State) : BitVec 2 :=
  if s.fwdSync.line = false then viewForward s.view
  else if s.bwdSync.line = false then viewBackward s.view
  else s.view

/-- How far the POLL that is in V_CHECK in `s` has come in the later state `u`. -/
inductive State.PollStage (s u : State) : Prop
  | check (start : u = s)
  /-- a press was seen, and the view's step is still to come -/
  | debounce (phase : u.phase = .vFdeb ∨ u.phase = .vBdeb) (view : u.view = s.view)
      (pending : u.phase.pollView 0 u.view = s.pollTarget)
  /-- the view is what the POLL leaves -/
  | settled (phase : u.phase = .vFrel ∨ u.phase = .vBrel ∨ u.phase = .idle) (view : u.view = s.pollTarget)

namespace State.PollStage

variable {s u : State}

/-- In every stage the view is the old one or the POLL's. -/
theorem view_eq (h : s.PollStage u) : u.view = s.view ∨ u.view = s.pollTarget := by
  cases h
  case check start => exact .inl (congrArg State.view start)
  case debounce view _ => exact .inl view
  case settled view => exact .inr view

/-- V_CHECK's cycle starts the debounce of the button pressed, or ends the POLL. -/
theorem start (hp : s.phase = .vCheck) (hr : s.ports.rst = false) : s.PollStage s.tick := by
  have hphase := tick_phase_of_poll hr hp rfl
  have hview : s.tick.view = s.view := tick_view_of_poll hr hp nofun
  cases fwd : s.fwdSync.line
  · have hdeb : s.tick.phase = .vFdeb := by rw [hphase, fwd]; rfl
    exact .debounce (.inl hdeb) hview (by simp [hdeb, hview, Phase.pollView, pollTarget, fwd])
  · cases bwd : s.bwdSync.line
    · have hdeb : s.tick.phase = .vBdeb := by rw [hphase, fwd, bwd]; rfl
      exact .debounce (.inr hdeb) hview (by simp [hdeb, hview, Phase.pollView, pollTarget, fwd, bwd])
    · exact .settled (.inr (.inr (by rw [hphase, fwd, bwd]; rfl))) (by simp [hview, pollTarget, fwd, bwd])

/-- The last cycle of a debounce makes the view's step. -/
theorem debounceEnd (hr : u.ports.rst = false) (hdeb : u.phase = .vFdeb ∨ u.phase = .vBdeb) (last : u.cnt = 0)
    (pending : u.phase.pollView 0 u.view = s.pollTarget) : s.PollStage u.tick := by
  rcases hdeb with hp | hp <;> rw [hp] at pending
  · obtain ⟨hphase, hview, -⟩ := tick_of_debounceEnd hr hp (.inl rfl) (fun _ _ => rfl) last
    exact .settled (.inl hphase) (hview.trans pending)
  · obtain ⟨hphase, hview, -⟩ := tick_of_debounceEnd hr hp (.inr rfl) (fun _ _ => rfl) last
    exact .settled (.inr (.inl hphase)) (hview.trans pending)

/-- One cycle of a POLL leads to a stage of it, and moves the view only away from the old one. -/
theorem succ (hp : s.phase = .vCheck) (h : s.PollStage u) (hr : u.ports.rst = false) (busy : u.phase ≠ .idle) :
    s.PollStage u.tick ∧ (u.view = s.view ∨ u.tick.view = u.view) := by
  cases h
  case check start => subst start; exact ⟨.start hp hr, .inl rfl⟩
  case debounce hdeb hview pending =>
    refine ⟨?_, .inl hview⟩
    by_cases last : u.cnt = 0
    · exact debounceEnd hr hdeb last pending
    · obtain ⟨hphase', -, hview'⟩ := tick_of_debounce hr rfl hdeb last
      exact .debounce (hphase' ▸ hdeb) (hview'.trans hview) (by rw [hphase', hview', pending])
  case settled hphase hview =>
    obtain ⟨hphase', hview'⟩ := tick_of_release hr (by simpa [busy] using hphase)
    exact ⟨.settled hphase' (hview'.trans hview), .inr hview'⟩

end State.PollStage

/-- A POLL that has not ended, or just has, is in one of its stages, and the view has differed from the old one only by being
what it is now (44_view_fsm.md rule R199). -/
theorem pollStage_of_busy {s : State} {n : Nat} (hp : s.phase = .vCheck) (hno : s.NoReset n)
    (busy : ∀ k < n, (s.after k).phase ≠ .idle) :
    s.PollStage (s.after n) ∧ ∀ k ≤ n, (s.after k).view ≠ s.view → (s.after n).view = (s.after k).view := by
  induction n with
  | zero => exact ⟨.check rfl, fun k hk hne => absurd (by rw [Nat.le_zero.mp hk]; rfl) hne⟩
  | succ n ih =>
    obtain ⟨hstage, honce⟩ := ih (hno.mono n.le_succ) fun k hk => busy k (Nat.lt_succ_of_lt hk)
    obtain ⟨hstage', hmove⟩ := hstage.succ hp (hno n n.lt_succ_self) (busy n n.lt_succ_self)
    refine ⟨hstage', fun k hk hne => ?_⟩
    rcases Nat.le_succ_iff.mp hk with hk | rfl
    · have hsame := honce k hk hne
      exact (hmove.resolve_left (hsame ▸ hne)).trans hsame
    · rfl

/-- Settles O53: at every stage the view is the old one or the POLL's, and the stage in IDLE has the POLL's. -/
theorem pollMovesTheViewAtMostOnce : Obligations.PollMovesTheViewAtMostOnce := by
  intro s n hp hno busy
  obtain ⟨hstage, honce⟩ := pollStage_of_busy hp hno busy
  have htarget : s.pollTarget = if s.fwdSync.line = false then s.view + 1
      else if s.bwdSync.line = false then s.view - 1 else s.view := by
    rw [State.pollTarget, viewBackward_eq_sub_one]; rfl
  refine ⟨?_, fun hidle => ?_, honce⟩
  · have hview := hstage.view_eq
    rw [htarget] at hview
    cases fwd : s.fwdSync.line <;> cases bwd : s.bwdSync.line <;> simpa [fwd, bwd] using hview
  · have hview : (s.after n).view = s.pollTarget := by
      cases hstage
      case check start => rw [start, hp] at hidle; cases hidle
      case debounce hdeb _ _ => exact absurd hidle (Phase.ne_idle_of_debounce hdeb)
      case settled hview => exact hview
    rw [hview, htarget]
    exact ⟨fun fwd => if_pos fwd, fun fwd bwd => by simp [fwd, bwd], fun fwd bwd => by simp [fwd, bwd]⟩

end Sys2Proof.Machine
end

section
/-! PROOF of the statement of 60_exceptions.md on the waits: in a wait whose condition fails the sequencer's step does nothing, so
a cycle, and by induction a run of such cycles, keeps the registers of the command. -/

namespace Sys2Proof.Machine

/-- In IDLE nothing is waited for. -/
theorem State.ne_idle_of_held {s : State} (h : s.held = true) : s.phase ≠ .idle := fun hp => by
  rw [State.held, hp] at h; cases h

/-- A wait whose condition fails changes nothing (00_scope.md rule R12). -/
theorem waitFor_of_eq_false {cond : Bool} (exit : State → State) (s : State) (h : cond = false) :
    waitFor cond exit s = s := by
  rw [h, waitFor_false]

/-- In a wait phase whose condition fails the sequencer does nothing (60_exceptions.md rule R214). -/
theorem sequencerStep_of_held {s : State} (h : s.held = true) : sequencerStep s = s := by
  unfold State.held at h
  unfold sequencerStep
  cases hp : s.phase <;> rw [hp] at h
  case fAckRel | fAckLow | fAckHigh | fRiseLow | fRiseHigh | fFall | vFrel | vBrel | tWtx1 | tWstt | tNwstp | tWtx2 | tWstp =>
    exact waitFor_of_eq_false _ _ (by simpa using h)
  all_goals cases h

/-- The registers a wait keeps: the phase, the results of the command, and its kind. -/
def State.commandRegs (s : State) : Phase × Frame × BitVec 6 × Bool × BitVec 2 × Bool × BitVec 2 :=
  (s.phase, s.sr, s.bitidx, s.frameRdy, s.view, s.busNack, s.op)

/-- One cycle of a wait, whatever the host presents. -/
theorem tick_commandRegs_of_held {s : State} (hr : s.ports.rst = false) (h : s.held = true) :
    s.tick.commandRegs = s.commandRegs := by
  have busy := State.ne_idle_of_held h
  rw [State.commandRegs, tick_phase_of_busy hr busy, tick_sr_of_busy hr busy, tick_bitidx_of_busy hr busy,
    tick_frameRdy_of_busy hr busy, tick_view_of_busy hr busy, tick_busNack_of_busy hr busy, tick_op_of_busy hr busy,
    sequencerStep_of_held h, State.commandRegs]

/-- A wait of any length. -/
theorem after_commandRegs_of_held {s : State} {n : Nat} (hno : s.NoReset n) (hheld : ∀ k < n, (s.after k).held = true) :
    (s.after n).commandRegs = s.commandRegs := by
  induction n with
  | zero => rfl
  | succ n ih =>
    calc (s.after (n + 1)).commandRegs
      _ = (s.after n).commandRegs := tick_commandRegs_of_held (hno n n.lt_succ_self) (hheld n n.lt_succ_self)
      _ = s.commandRegs := ih (hno.mono n.le_succ) fun k hk => hheld k (Nat.lt_succ_of_lt hk)

/-- Settles O54: the run keeps the command's registers, and the phase it keeps is a wait's, so BUSY stays. -/
theorem waitLastsUntilItsCondition : Obligations.WaitLastsUntilItsCondition := by
  intro s n hno hheld
  have hkept := after_commandRegs_of_held hno hheld
  simp only [State.commandRegs, Prod.mk.injEq] at hkept
  obtain ⟨hphase, hsr, hbitidx, hframeRdy, hview, hbusNack, hop⟩ := hkept
  refine ⟨hphase, hsr, hbitidx, hframeRdy, hview, hbusNack, hop, fun hn => ?_⟩
  rw [State.busy_eq_true_iff, hphase]
  exact State.ne_idle_of_held (hheld 0 hn)

end Sys2Proof.Machine
end

section
/-! PROOFS of the statements of 70_reset_and_hazards.md: the reset edge gives every register its reset value, the passage to the
next cycle changes no register, and a machine at rest accepts a command. -/

namespace Sys2Proof

/-- The "reset read" column of 10_state.md rule R44: an empty frame is 0 degrees Celsius, 320 tenths of a degree Fahrenheit, and
every other register reads 0. -/
def Reg.resetRead : Reg → Byte
  | .ftenLo => 0x40#8
  | .ftenHi => 0x01#8
  | .cmd | .status | .view | .b0 | .b1 | .b2 | .b3 | .b4 | .busAddr | .busData | .nackCnt | .phase | .bitidx | .rsvdF => 0x00#8

end Sys2Proof

namespace Sys2Proof.Machine

/-! ### Read values and outputs -/

/-- The reset edge leaves the register map at its reset column. -/
theorem readVal_resetEdge (r : Reg) (s : State) : readVal r s.resetEdge = r.resetRead := by
  cases r
  case status => simp [readVal, Reg.resetRead, State.status, State.valid, State.busy]
  case b0 | b1 | b2 | b3 | b4 => simp [readVal, Reg.resetRead, State.b0, State.b1, State.b2, State.b3, State.b4]
  case ftenLo | ftenHi => simp [readVal, Reg.resetRead, State.ftenths, State.b2]
  all_goals rfl

/-- The next cycle's inputs change no read value. -/
theorem readVal_nextCycle (r : Reg) (s : State) : readVal r s.nextCycle = readVal r s := by
  obtain ⟨p, c, hnext⟩ := s.nextCycle_eq
  rw [hnext]
  cases r <;> rfl

/-- In IDLE with empty operand latches no output drives anything, whatever the level of `rst` (10_state.md rule R45). -/
theorem outputs_of_idle_of_latches_zero {s : State} (idle : s.phase = .idle) (haddr : s.btAddr = 0) (hdata : s.btData = 0) :
    s.dqDriveLow = false ∧ s.bcSaWe = false ∧ s.bcStartW = false ∧ s.bcTxWe = false ∧ s.bcStop = false ∧ s.bcSa = 0 ∧
    s.bcTxData = 0 := by
  simp [State.dqDriveLow, State.bcSaWe, State.bcStartW, State.bcTxWe, State.bcStop, State.bcSa, State.bcTxData, idle, haddr,
    hdata]

/-! ### The statements -/

/-- Settles O7: the step is the reset edge and the passage to the next cycle, which changes no register. -/
theorem resetEdgeLoadsEveryRegister : Obligations.ResetEdgeLoadsEveryRegister :=
  fun _ hr => ⟨_, step_of_rst hr, by simp⟩

/-- Settles O8: the read values and the outputs are those of the reset edge, which leaves the machine in IDLE, where an ACQ is
accepted. -/
theorem afterResetTheMapReadsItsResetColumn : Obligations.AfterResetTheMapReadsItsResetColumn := by
  intro s hr
  have hread (r : Reg) : readVal r s.resetEdge.nextCycle = r.resetRead := by rw [readVal_nextCycle, readVal_resetEdge]
  have idle : s.resetEdge.nextCycle.phase = .idle := by rw [State.nextCycle_phase, State.resetEdge_phase]
  refine ⟨_, step_of_rst hr, ⟨hread .cmd, hread .status, hread .view, hread .b0, hread .b1, hread .b2, hread .b3, hread .b4,
    hread .ftenLo, hread .ftenHi, hread .busAddr, hread .busData, hread .nackCnt, hread .phase, hread .bitidx,
    hread .rsvdF⟩, outputs_of_idle_of_latches_zero idle (by simp) (by simp), fun hlow hacq => ?_⟩
  obtain ⟨hstart, -⟩ := tick_of_acq hlow idle hacq
  exact ⟨_, step_eq_tick _, hstart⟩

/-- Settles O49: the reset edge establishes the invariant, and the reset state is a reset edge's but for what is outside it. -/
theorem resetEstablishesTheInvariant : Obligations.ResetEstablishesTheInvariant :=
  ⟨fun s hfit hr => ⟨_, step_of_rst hr, (s.resetEdge_inv hfit).nextCycle⟩,
    fun p hfit => (State.resetEdge_inv { State.reset with params := p } hfit).withInputs _ _ _ _ _ _ 0⟩

end Sys2Proof.Machine
end
